-- ==== Sys2Proof/Word.lean ====
section
/-! DEFINITION. The word types of DOSLite CORE and their plainest arithmetic (spec/00_scope.md R7,
spec/10_state.md R21). A byte is 8 bits, a word is 16 bits, bit 0 is the least significant. -/

namespace Sys2Proof

/-- R7: a byte is 8 bits. -/
abbrev Byte := BitVec 8

/-- R6 `REG_WIDTH`, R7: a word is 16 bits. -/
abbrev Word := BitVec 16

/-- R7: `hi ++ lo`, concatenation with the first operand in the high bits. -/
def joinBytes (hi lo : Byte) : Word := hi ++ lo

/-- R7: `v[7:0]`. -/
def lowByte (v : Word) : Byte := v.extractLsb' 0 8

/-- R7: `v[15:8]`. -/
def highByte (v : Word) : Byte := v.extractLsb' 8 8

end Sys2Proof
end

