-- ==== Sys2Proof/Syntax.lean ====
section
/-! DEFINITION. The instructions of DOSLite CORE as syntax: one constructor of `Instr` for each row of
spec/opcode_table.json (spec/30_encoding.md R110 to R115), after the operand forms of R95 to R97 and R101
to R106. Displacements and immediates are kept as the instruction stream holds them. -/

namespace Sys2Proof

/-- R23: the byte registers, in the order of their 3-bit codes. -/
inductive Reg8 where
  | al | cl | dl | bl | ah | ch | dh | bh
  deriving DecidableEq, Repr

/-- R24: the word registers, in the order of their 3-bit codes. -/
inductive Reg16 where
  | ax | cx | dx | bx | sp | bp | si | di
  deriving DecidableEq, Repr

/-- R27: the segment registers, in the order of their 2-bit codes. -/
inductive SReg where
  | es | cs | ss | ds
  deriving DecidableEq, Repr

/-- R96: the eight base expressions, in the order of the r/m codes. -/
inductive Base where
  | bxSi | bxDi | bpSi | bpDi | si | di | bp | bx
  deriving DecidableEq, Repr

/-- R95 to R97: a memory operand (mode 0, 1 or 2) with its displacement bytes. -/
inductive MemOperand where
  /-- mode 0, r/m 6: the offset itself, no base register (R97). -/
  | direct (off : Word)
  /-- mode 0, any other r/m: the base expression alone. -/
  | base (b : Base)
  /-- mode 1: one displacement byte, sign-extended when it is used. -/
  | disp8 (b : Base) (d : Byte)
  /-- mode 2: two displacement bytes. -/
  | disp16 (b : Base) (d : Word)
  deriving DecidableEq, Repr

/-- R95, R104: the operand a ModR/M byte selects: a register of type `R` (mode 3) or memory. -/
inductive RM (R : Type) where
  | reg (r : R)
  | mem (m : MemOperand)
  deriving DecidableEq, Repr

/-- The r/m operand of a byte operation. -/
abbrev RM8 := RM Reg8

/-- The r/m operand of a word operation. -/
abbrev RM16 := RM Reg16

/-- R111: the eight two-operand instructions, in the order of their selector. -/
inductive AluOp where
  | add | or | adc | sbb | and | sub | xor | cmp
  deriving DecidableEq, Repr

/-- R112: the eight shifts and rotates, in the order of their selector. -/
inductive ShiftOp where
  | rol | ror | rcl | rcr | shl | shr | sal | sar
  deriving DecidableEq, Repr

/-- R178, R179: increment and decrement. -/
inductive IncDec where
  | inc | dec
  deriving DecidableEq, Repr

/-- R305 to R320: the sixteen branch conditions, in the order of their opcodes. -/
inductive Cond where
  | o | no | b | ae | e | ne | be | a | s | ns | p | np | l | ge | le | g
  deriving DecidableEq, Repr

/-- R325 to R327: what the loop family tests beside CX. -/
inductive LoopKind where
  | always | whileZero | whileNotZero
  deriving DecidableEq, Repr

/-- R110 to R115: the instructions, one constructor for each row of the opcode table. Those whose name
begins with `tierX` are the encodings outside the recognized set (R350), which have no operands. The
constructors with fields come first: compiled code numbers at most 245 of those. -/
inductive Instr where
  -- ALU/Flags Engine, with operand fields
  /-- ADD r/m8, r8 (00) -/
  | addRm8R8 (rm : RM8) (r : Reg8)
  /-- ADD r/m16, r16 (01) -/
  | addRm16R16 (rm : RM16) (r : Reg16)
  /-- ADD r8, r/m8 (02) -/
  | addR8Rm8 (rm : RM8) (r : Reg8)
  /-- ADD r16, r/m16 (03) -/
  | addR16Rm16 (rm : RM16) (r : Reg16)
  /-- ADD AL, imm8 (04) -/
  | addAlImm8 (imm : Byte)
  /-- ADD AX, imm16 (05) -/
  | addAxImm16 (imm : Word)
  /-- OR r/m8, r8 (08) -/
  | orRm8R8 (rm : RM8) (r : Reg8)
  /-- OR r/m16, r16 (09) -/
  | orRm16R16 (rm : RM16) (r : Reg16)
  /-- OR r8, r/m8 (0A) -/
  | orR8Rm8 (rm : RM8) (r : Reg8)
  /-- OR r16, r/m16 (0B) -/
  | orR16Rm16 (rm : RM16) (r : Reg16)
  /-- OR AL, imm8 (0C) -/
  | orAlImm8 (imm : Byte)
  /-- OR AX, imm16 (0D) -/
  | orAxImm16 (imm : Word)
  /-- ADC r/m8, r8 (10) -/
  | adcRm8R8 (rm : RM8) (r : Reg8)
  /-- ADC r/m16, r16 (11) -/
  | adcRm16R16 (rm : RM16) (r : Reg16)
  /-- ADC r8, r/m8 (12) -/
  | adcR8Rm8 (rm : RM8) (r : Reg8)
  /-- ADC r16, r/m16 (13) -/
  | adcR16Rm16 (rm : RM16) (r : Reg16)
  /-- ADC AL, imm8 (14) -/
  | adcAlImm8 (imm : Byte)
  /-- ADC AX, imm16 (15) -/
  | adcAxImm16 (imm : Word)
  /-- SBB r/m8, r8 (18) -/
  | sbbRm8R8 (rm : RM8) (r : Reg8)
  /-- SBB r/m16, r16 (19) -/
  | sbbRm16R16 (rm : RM16) (r : Reg16)
  /-- SBB r8, r/m8 (1A) -/
  | sbbR8Rm8 (rm : RM8) (r : Reg8)
  /-- SBB r16, r/m16 (1B) -/
  | sbbR16Rm16 (rm : RM16) (r : Reg16)
  /-- SBB AL, imm8 (1C) -/
  | sbbAlImm8 (imm : Byte)
  /-- SBB AX, imm16 (1D) -/
  | sbbAxImm16 (imm : Word)
  /-- AND r/m8, r8 (20) -/
  | andRm8R8 (rm : RM8) (r : Reg8)
  /-- AND r/m16, r16 (21) -/
  | andRm16R16 (rm : RM16) (r : Reg16)
  /-- AND r8, r/m8 (22) -/
  | andR8Rm8 (rm : RM8) (r : Reg8)
  /-- AND r16, r/m16 (23) -/
  | andR16Rm16 (rm : RM16) (r : Reg16)
  /-- AND AL, imm8 (24) -/
  | andAlImm8 (imm : Byte)
  /-- AND AX, imm16 (25) -/
  | andAxImm16 (imm : Word)
  /-- SUB r/m8, r8 (28) -/
  | subRm8R8 (rm : RM8) (r : Reg8)
  /-- SUB r/m16, r16 (29) -/
  | subRm16R16 (rm : RM16) (r : Reg16)
  /-- SUB r8, r/m8 (2A) -/
  | subR8Rm8 (rm : RM8) (r : Reg8)
  /-- SUB r16, r/m16 (2B) -/
  | subR16Rm16 (rm : RM16) (r : Reg16)
  /-- SUB AL, imm8 (2C) -/
  | subAlImm8 (imm : Byte)
  /-- SUB AX, imm16 (2D) -/
  | subAxImm16 (imm : Word)
  /-- XOR r/m8, r8 (30) -/
  | xorRm8R8 (rm : RM8) (r : Reg8)
  /-- XOR r/m16, r16 (31) -/
  | xorRm16R16 (rm : RM16) (r : Reg16)
  /-- XOR r8, r/m8 (32) -/
  | xorR8Rm8 (rm : RM8) (r : Reg8)
  /-- XOR r16, r/m16 (33) -/
  | xorR16Rm16 (rm : RM16) (r : Reg16)
  /-- XOR AL, imm8 (34) -/
  | xorAlImm8 (imm : Byte)
  /-- XOR AX, imm16 (35) -/
  | xorAxImm16 (imm : Word)
  /-- CMP r/m8, r8 (38) -/
  | cmpRm8R8 (rm : RM8) (r : Reg8)
  /-- CMP r/m16, r16 (39) -/
  | cmpRm16R16 (rm : RM16) (r : Reg16)
  /-- CMP r8, r/m8 (3A) -/
  | cmpR8Rm8 (rm : RM8) (r : Reg8)
  /-- CMP r16, r/m16 (3B) -/
  | cmpR16Rm16 (rm : RM16) (r : Reg16)
  /-- CMP AL, imm8 (3C) -/
  | cmpAlImm8 (imm : Byte)
  /-- CMP AX, imm16 (3D) -/
  | cmpAxImm16 (imm : Word)
  /-- ADD r/m8, imm8 (80 /0) -/
  | addRm8Imm8 (rm : RM8) (imm : Byte)
  /-- OR r/m8, imm8 (80 /1) -/
  | orRm8Imm8 (rm : RM8) (imm : Byte)
  /-- ADC r/m8, imm8 (80 /2) -/
  | adcRm8Imm8 (rm : RM8) (imm : Byte)
  /-- SBB r/m8, imm8 (80 /3) -/
  | sbbRm8Imm8 (rm : RM8) (imm : Byte)
  /-- AND r/m8, imm8 (80 /4) -/
  | andRm8Imm8 (rm : RM8) (imm : Byte)
  /-- SUB r/m8, imm8 (80 /5) -/
  | subRm8Imm8 (rm : RM8) (imm : Byte)
  /-- XOR r/m8, imm8 (80 /6) -/
  | xorRm8Imm8 (rm : RM8) (imm : Byte)
  /-- CMP r/m8, imm8 (80 /7) -/
  | cmpRm8Imm8 (rm : RM8) (imm : Byte)
  /-- ADD r/m16, imm16 (81 /0) -/
  | addRm16Imm16 (rm : RM16) (imm : Word)
  /-- OR r/m16, imm16 (81 /1) -/
  | orRm16Imm16 (rm : RM16) (imm : Word)
  /-- ADC r/m16, imm16 (81 /2) -/
  | adcRm16Imm16 (rm : RM16) (imm : Word)
  /-- SBB r/m16, imm16 (81 /3) -/
  | sbbRm16Imm16 (rm : RM16) (imm : Word)
  /-- AND r/m16, imm16 (81 /4) -/
  | andRm16Imm16 (rm : RM16) (imm : Word)
  /-- SUB r/m16, imm16 (81 /5) -/
  | subRm16Imm16 (rm : RM16) (imm : Word)
  /-- XOR r/m16, imm16 (81 /6) -/
  | xorRm16Imm16 (rm : RM16) (imm : Word)
  /-- CMP r/m16, imm16 (81 /7) -/
  | cmpRm16Imm16 (rm : RM16) (imm : Word)
  /-- ADD r/m16, simm8 (83 /0) -/
  | addRm16Simm8 (rm : RM16) (imm : Byte)
  /-- OR r/m16, simm8 (83 /1) -/
  | orRm16Simm8 (rm : RM16) (imm : Byte)
  /-- ADC r/m16, simm8 (83 /2) -/
  | adcRm16Simm8 (rm : RM16) (imm : Byte)
  /-- SBB r/m16, simm8 (83 /3) -/
  | sbbRm16Simm8 (rm : RM16) (imm : Byte)
  /-- AND r/m16, simm8 (83 /4) -/
  | andRm16Simm8 (rm : RM16) (imm : Byte)
  /-- SUB r/m16, simm8 (83 /5) -/
  | subRm16Simm8 (rm : RM16) (imm : Byte)
  /-- XOR r/m16, simm8 (83 /6) -/
  | xorRm16Simm8 (rm : RM16) (imm : Byte)
  /-- CMP r/m16, simm8 (83 /7) -/
  | cmpRm16Simm8 (rm : RM16) (imm : Byte)
  /-- INC r/m8 (FE /0) -/
  | incRm8 (rm : RM8)
  /-- DEC r/m8 (FE /1) -/
  | decRm8 (rm : RM8)
  /-- INC r/m16 (FF /0) -/
  | incRm16 (rm : RM16)
  /-- DEC r/m16 (FF /1) -/
  | decRm16 (rm : RM16)
  -- data movement, with operand fields
  /-- MOV r/m8, r8 (88) -/
  | movRm8R8 (rm : RM8) (r : Reg8)
  /-- MOV r/m16, r16 (89) -/
  | movRm16R16 (rm : RM16) (r : Reg16)
  /-- MOV r8, r/m8 (8A) -/
  | movR8Rm8 (rm : RM8) (r : Reg8)
  /-- MOV r16, r/m16 (8B) -/
  | movR16Rm16 (rm : RM16) (r : Reg16)
  /-- MOV r/m16, ES (8C /0) -/
  | movRm16Es (rm : RM16)
  /-- MOV r/m16, CS (8C /1) -/
  | movRm16Cs (rm : RM16)
  /-- MOV r/m16, SS (8C /2) -/
  | movRm16Ss (rm : RM16)
  /-- MOV r/m16, DS (8C /3) -/
  | movRm16Ds (rm : RM16)
  /-- MOV ES, r/m16 (8E /0) -/
  | movEsRm16 (rm : RM16)
  /-- MOV SS, r/m16 (8E /2) -/
  | movSsRm16 (rm : RM16)
  /-- MOV DS, r/m16 (8E /3) -/
  | movDsRm16 (rm : RM16)
  /-- MOV AL, [moffs16] (A0) -/
  | movAlMoffs (off : Word)
  /-- MOV AX, [moffs16] (A1) -/
  | movAxMoffs (off : Word)
  /-- MOV [moffs16], AL (A2) -/
  | movMoffsAl (off : Word)
  /-- MOV [moffs16], AX (A3) -/
  | movMoffsAx (off : Word)
  /-- MOV AL, imm8 (B0) -/
  | movAlImm8 (imm : Byte)
  /-- MOV CL, imm8 (B1) -/
  | movClImm8 (imm : Byte)
  /-- MOV DL, imm8 (B2) -/
  | movDlImm8 (imm : Byte)
  /-- MOV BL, imm8 (B3) -/
  | movBlImm8 (imm : Byte)
  /-- MOV AH, imm8 (B4) -/
  | movAhImm8 (imm : Byte)
  /-- MOV CH, imm8 (B5) -/
  | movChImm8 (imm : Byte)
  /-- MOV DH, imm8 (B6) -/
  | movDhImm8 (imm : Byte)
  /-- MOV BH, imm8 (B7) -/
  | movBhImm8 (imm : Byte)
  /-- MOV AX, imm16 (B8) -/
  | movAxImm16 (imm : Word)
  /-- MOV CX, imm16 (B9) -/
  | movCxImm16 (imm : Word)
  /-- MOV DX, imm16 (BA) -/
  | movDxImm16 (imm : Word)
  /-- MOV BX, imm16 (BB) -/
  | movBxImm16 (imm : Word)
  /-- MOV SP, imm16 (BC) -/
  | movSpImm16 (imm : Word)
  /-- MOV BP, imm16 (BD) -/
  | movBpImm16 (imm : Word)
  /-- MOV SI, imm16 (BE) -/
  | movSiImm16 (imm : Word)
  /-- MOV DI, imm16 (BF) -/
  | movDiImm16 (imm : Word)
  /-- MOV r/m8, imm8 (C6 /0) -/
  | movRm8Imm8 (rm : RM8) (imm : Byte)
  /-- MOV r/m16, imm16 (C7 /0) -/
  | movRm16Imm16 (rm : RM16) (imm : Word)
  -- BCD adjustment, with operand fields
  /-- AAM base8 (D4) -/
  | aam (base : Byte)
  /-- AAD base8 (D5) -/
  | aad (base : Byte)
  -- Shift/Rotate Engine, with operand fields
  /-- ROL r/m8, cnt8 (C0 /0) -/
  | rolRm8Cnt (rm : RM8) (cnt : Byte)
  /-- ROR r/m8, cnt8 (C0 /1) -/
  | rorRm8Cnt (rm : RM8) (cnt : Byte)
  /-- RCL r/m8, cnt8 (C0 /2) -/
  | rclRm8Cnt (rm : RM8) (cnt : Byte)
  /-- RCR r/m8, cnt8 (C0 /3) -/
  | rcrRm8Cnt (rm : RM8) (cnt : Byte)
  /-- SHL r/m8, cnt8 (C0 /4) -/
  | shlRm8Cnt (rm : RM8) (cnt : Byte)
  /-- SHR r/m8, cnt8 (C0 /5) -/
  | shrRm8Cnt (rm : RM8) (cnt : Byte)
  /-- SAL r/m8, cnt8 (C0 /6) -/
  | salRm8Cnt (rm : RM8) (cnt : Byte)
  /-- SAR r/m8, cnt8 (C0 /7) -/
  | sarRm8Cnt (rm : RM8) (cnt : Byte)
  /-- ROL r/m16, cnt8 (C1 /0) -/
  | rolRm16Cnt (rm : RM16) (cnt : Byte)
  /-- ROR r/m16, cnt8 (C1 /1) -/
  | rorRm16Cnt (rm : RM16) (cnt : Byte)
  /-- RCL r/m16, cnt8 (C1 /2) -/
  | rclRm16Cnt (rm : RM16) (cnt : Byte)
  /-- RCR r/m16, cnt8 (C1 /3) -/
  | rcrRm16Cnt (rm : RM16) (cnt : Byte)
  /-- SHL r/m16, cnt8 (C1 /4) -/
  | shlRm16Cnt (rm : RM16) (cnt : Byte)
  /-- SHR r/m16, cnt8 (C1 /5) -/
  | shrRm16Cnt (rm : RM16) (cnt : Byte)
  /-- SAL r/m16, cnt8 (C1 /6) -/
  | salRm16Cnt (rm : RM16) (cnt : Byte)
  /-- SAR r/m16, cnt8 (C1 /7) -/
  | sarRm16Cnt (rm : RM16) (cnt : Byte)
  /-- ROL r/m8, 1 (D0 /0) -/
  | rolRm8One (rm : RM8)
  /-- ROR r/m8, 1 (D0 /1) -/
  | rorRm8One (rm : RM8)
  /-- RCL r/m8, 1 (D0 /2) -/
  | rclRm8One (rm : RM8)
  /-- RCR r/m8, 1 (D0 /3) -/
  | rcrRm8One (rm : RM8)
  /-- SHL r/m8, 1 (D0 /4) -/
  | shlRm8One (rm : RM8)
  /-- SHR r/m8, 1 (D0 /5) -/
  | shrRm8One (rm : RM8)
  /-- SAL r/m8, 1 (D0 /6) -/
  | salRm8One (rm : RM8)
  /-- SAR r/m8, 1 (D0 /7) -/
  | sarRm8One (rm : RM8)
  /-- ROL r/m16, 1 (D1 /0) -/
  | rolRm16One (rm : RM16)
  /-- ROR r/m16, 1 (D1 /1) -/
  | rorRm16One (rm : RM16)
  /-- RCL r/m16, 1 (D1 /2) -/
  | rclRm16One (rm : RM16)
  /-- RCR r/m16, 1 (D1 /3) -/
  | rcrRm16One (rm : RM16)
  /-- SHL r/m16, 1 (D1 /4) -/
  | shlRm16One (rm : RM16)
  /-- SHR r/m16, 1 (D1 /5) -/
  | shrRm16One (rm : RM16)
  /-- SAL r/m16, 1 (D1 /6) -/
  | salRm16One (rm : RM16)
  /-- SAR r/m16, 1 (D1 /7) -/
  | sarRm16One (rm : RM16)
  /-- ROL r/m8, CL (D2 /0) -/
  | rolRm8Cl (rm : RM8)
  /-- ROR r/m8, CL (D2 /1) -/
  | rorRm8Cl (rm : RM8)
  /-- RCL r/m8, CL (D2 /2) -/
  | rclRm8Cl (rm : RM8)
  /-- RCR r/m8, CL (D2 /3) -/
  | rcrRm8Cl (rm : RM8)
  /-- SHL r/m8, CL (D2 /4) -/
  | shlRm8Cl (rm : RM8)
  /-- SHR r/m8, CL (D2 /5) -/
  | shrRm8Cl (rm : RM8)
  /-- SAL r/m8, CL (D2 /6) -/
  | salRm8Cl (rm : RM8)
  /-- SAR r/m8, CL (D2 /7) -/
  | sarRm8Cl (rm : RM8)
  /-- ROL r/m16, CL (D3 /0) -/
  | rolRm16Cl (rm : RM16)
  /-- ROR r/m16, CL (D3 /1) -/
  | rorRm16Cl (rm : RM16)
  /-- RCL r/m16, CL (D3 /2) -/
  | rclRm16Cl (rm : RM16)
  /-- RCR r/m16, CL (D3 /3) -/
  | rcrRm16Cl (rm : RM16)
  /-- SHL r/m16, CL (D3 /4) -/
  | shlRm16Cl (rm : RM16)
  /-- SHR r/m16, CL (D3 /5) -/
  | shrRm16Cl (rm : RM16)
  /-- SAL r/m16, CL (D3 /6) -/
  | salRm16Cl (rm : RM16)
  /-- SAR r/m16, CL (D3 /7) -/
  | sarRm16Cl (rm : RM16)
  -- stack primitives, with operand fields
  /-- POP r/m16 (8F /0) -/
  | popRm16 (rm : RM16)
  /-- PUSH r/m16 (FF /6) -/
  | pushRm16 (rm : RM16)
  -- control transfer, with operand fields
  /-- JO rel8 (70) -/
  | jo (rel : Byte)
  /-- JNO rel8 (71) -/
  | jno (rel : Byte)
  /-- JB rel8 (72) -/
  | jb (rel : Byte)
  /-- JAE rel8 (73) -/
  | jae (rel : Byte)
  /-- JE rel8 (74) -/
  | je (rel : Byte)
  /-- JNE rel8 (75) -/
  | jne (rel : Byte)
  /-- JBE rel8 (76) -/
  | jbe (rel : Byte)
  /-- JA rel8 (77) -/
  | ja (rel : Byte)
  /-- JS rel8 (78) -/
  | js (rel : Byte)
  /-- JNS rel8 (79) -/
  | jns (rel : Byte)
  /-- JP rel8 (7A) -/
  | jp (rel : Byte)
  /-- JNP rel8 (7B) -/
  | jnp (rel : Byte)
  /-- JL rel8 (7C) -/
  | jl (rel : Byte)
  /-- JGE rel8 (7D) -/
  | jge (rel : Byte)
  /-- JLE rel8 (7E) -/
  | jle (rel : Byte)
  /-- JG rel8 (7F) -/
  | jg (rel : Byte)
  /-- CALL ptr16:16 (9A) -/
  | callFar (off : Word) (seg : Word)
  /-- RET pop16 (C2) -/
  | retPop (count : Word)
  /-- RETF pop16 (CA) -/
  | retfPop (count : Word)
  /-- LOOPNE rel8 (E0) -/
  | loopne (rel : Byte)
  /-- LOOPE rel8 (E1) -/
  | loope (rel : Byte)
  /-- LOOP rel8 (E2) -/
  | loop (rel : Byte)
  /-- JCXZ rel8 (E3) -/
  | jcxz (rel : Byte)
  /-- CALL rel16 (E8) -/
  | callNear (rel : Word)
  /-- JMP rel16 (E9) -/
  | jmpNear (rel : Word)
  /-- JMP ptr16:16 (EA) -/
  | jmpFar (off : Word) (seg : Word)
  /-- JMP rel8 (EB) -/
  | jmpShort (rel : Byte)
  -- system instructions, with operand fields
  /-- INT vec8 (CD) -/
  | int (vec : Byte)
  -- ALU/Flags Engine, without operand fields
  /-- INC AX (40) -/
  | incAx
  /-- INC CX (41) -/
  | incCx
  /-- INC DX (42) -/
  | incDx
  /-- INC BX (43) -/
  | incBx
  /-- INC SP (44) -/
  | incSp
  /-- INC BP (45) -/
  | incBp
  /-- INC SI (46) -/
  | incSi
  /-- INC DI (47) -/
  | incDi
  /-- DEC AX (48) -/
  | decAx
  /-- DEC CX (49) -/
  | decCx
  /-- DEC DX (4A) -/
  | decDx
  /-- DEC BX (4B) -/
  | decBx
  /-- DEC SP (4C) -/
  | decSp
  /-- DEC BP (4D) -/
  | decBp
  /-- DEC SI (4E) -/
  | decSi
  /-- DEC DI (4F) -/
  | decDi
  -- BCD adjustment, without operand fields
  /-- DAA AL (implicit) (27) -/
  | daa
  /-- DAS AL (implicit) (2F) -/
  | das
  /-- AAA AL, AH (implicit) (37) -/
  | aaa
  /-- AAS AL, AH (implicit) (3F) -/
  | aas
  -- string primitives, without operand fields
  /-- MOVSB implicit (A4) -/
  | movsb
  /-- MOVSW implicit (A5) -/
  | movsw
  /-- CMPSB implicit (A6) -/
  | cmpsb
  /-- CMPSW implicit (A7) -/
  | cmpsw
  /-- STOSB implicit (AA) -/
  | stosb
  /-- STOSW implicit (AB) -/
  | stosw
  /-- LODSB implicit (AC) -/
  | lodsb
  /-- LODSW implicit (AD) -/
  | lodsw
  /-- SCASB implicit (AE) -/
  | scasb
  /-- SCASW implicit (AF) -/
  | scasw
  -- stack primitives, without operand fields
  /-- PUSH ES (06) -/
  | pushEs
  /-- POP ES (07) -/
  | popEs
  /-- PUSH CS (0E) -/
  | pushCs
  /-- PUSH SS (16) -/
  | pushSs
  /-- POP SS (17) -/
  | popSs
  /-- PUSH DS (1E) -/
  | pushDs
  /-- POP DS (1F) -/
  | popDs
  /-- PUSH AX (50) -/
  | pushAx
  /-- PUSH CX (51) -/
  | pushCx
  /-- PUSH DX (52) -/
  | pushDx
  /-- PUSH BX (53) -/
  | pushBx
  /-- PUSH SP (54) -/
  | pushSp
  /-- PUSH BP (55) -/
  | pushBp
  /-- PUSH SI (56) -/
  | pushSi
  /-- PUSH DI (57) -/
  | pushDi
  /-- POP AX (58) -/
  | popAx
  /-- POP CX (59) -/
  | popCx
  /-- POP DX (5A) -/
  | popDx
  /-- POP BX (5B) -/
  | popBx
  /-- POP SP (5C) -/
  | popSp
  /-- POP BP (5D) -/
  | popBp
  /-- POP SI (5E) -/
  | popSi
  /-- POP DI (5F) -/
  | popDi
  -- control transfer, without operand fields
  /-- RET (C3) -/
  | ret
  /-- RETF (CB) -/
  | retf
  -- system instructions, without operand fields
  /-- HLT (F4) -/
  | hlt
  -- unrecognized opcodes (Tier X), without operand fields
  /-- POP CS (0F) -/
  | tierXPopCs
  /-- ES: prefix (26) -/
  | tierXEsPrefix
  /-- CS: prefix (2E) -/
  | tierXCsPrefix
  /-- SS: prefix (36) -/
  | tierXSsPrefix
  /-- DS: prefix (3E) -/
  | tierXDsPrefix
  /-- PUSHA (60) -/
  | tierXPusha
  /-- POPA (61) -/
  | tierXPopa
  /-- BOUND (62) -/
  | tierXBound
  /-- undefined 63 (63) -/
  | tierXUndefined63
  /-- undefined 64 (64) -/
  | tierXUndefined64
  /-- undefined 65 (65) -/
  | tierXUndefined65
  /-- undefined 66 (66) -/
  | tierXUndefined66
  /-- undefined 67 (67) -/
  | tierXUndefined67
  /-- PUSH imm16 (68) -/
  | tierXPushImm16
  /-- IMUL r16,r/m16,imm16 (69) -/
  | tierXImulR16Rm16Imm16
  /-- PUSH imm8 (6A) -/
  | tierXPushImm8
  /-- IMUL r16,r/m16,imm8 (6B) -/
  | tierXImulR16Rm16Imm8
  /-- INSB (6C) -/
  | tierXInsb
  /-- INSW (6D) -/
  | tierXInsw
  /-- OUTSB (6E) -/
  | tierXOutsb
  /-- OUTSW (6F) -/
  | tierXOutsw
  /-- group 1 alias of 80 (82) -/
  | tierXGroup1Alias82
  /-- TEST r/m8,r8 (84) -/
  | tierXTestRm8R8
  /-- TEST r/m16,r16 (85) -/
  | tierXTestRm16R16
  /-- XCHG r/m8,r8 (86) -/
  | tierXXchgRm8R8
  /-- XCHG r/m16,r16 (87) -/
  | tierXXchgRm16R16
  /-- MOV r/m16, nonexistent Sreg (8C /4) -/
  | tierXMovRm16Sreg4
  /-- MOV r/m16, nonexistent Sreg (8C /5) -/
  | tierXMovRm16Sreg5
  /-- MOV r/m16, nonexistent Sreg (8C /6) -/
  | tierXMovRm16Sreg6
  /-- MOV r/m16, nonexistent Sreg (8C /7) -/
  | tierXMovRm16Sreg7
  /-- LEA (8D) -/
  | tierXLea
  /-- MOV CS, r/m16 (8E /1) -/
  | tierXMovCsRm16
  /-- MOV nonexistent Sreg, r/m16 (8E /4) -/
  | tierXMovSreg4Rm16
  /-- MOV nonexistent Sreg, r/m16 (8E /5) -/
  | tierXMovSreg5Rm16
  /-- MOV nonexistent Sreg, r/m16 (8E /6) -/
  | tierXMovSreg6Rm16
  /-- MOV nonexistent Sreg, r/m16 (8E /7) -/
  | tierXMovSreg7Rm16
  /-- undefined 8F /1 (8F /1) -/
  | tierXUndefined8F1
  /-- undefined 8F /2 (8F /2) -/
  | tierXUndefined8F2
  /-- undefined 8F /3 (8F /3) -/
  | tierXUndefined8F3
  /-- undefined 8F /4 (8F /4) -/
  | tierXUndefined8F4
  /-- undefined 8F /5 (8F /5) -/
  | tierXUndefined8F5
  /-- undefined 8F /6 (8F /6) -/
  | tierXUndefined8F6
  /-- undefined 8F /7 (8F /7) -/
  | tierXUndefined8F7
  /-- NOP (90) -/
  | tierXNop
  /-- XCHG AX,CX (91) -/
  | tierXXchgAxCx
  /-- XCHG AX,DX (92) -/
  | tierXXchgAxDx
  /-- XCHG AX,BX (93) -/
  | tierXXchgAxBx
  /-- XCHG AX,SP (94) -/
  | tierXXchgAxSp
  /-- XCHG AX,BP (95) -/
  | tierXXchgAxBp
  /-- XCHG AX,SI (96) -/
  | tierXXchgAxSi
  /-- XCHG AX,DI (97) -/
  | tierXXchgAxDi
  /-- CBW (98) -/
  | tierXCbw
  /-- CWD (99) -/
  | tierXCwd
  /-- WAIT (9B) -/
  | tierXWait
  /-- PUSHF (9C) -/
  | tierXPushf
  /-- POPF (9D) -/
  | tierXPopf
  /-- SAHF (9E) -/
  | tierXSahf
  /-- LAHF (9F) -/
  | tierXLahf
  /-- TEST AL,imm8 (A8) -/
  | tierXTestAlImm8
  /-- TEST AX,imm16 (A9) -/
  | tierXTestAxImm16
  /-- LES (C4) -/
  | tierXLes
  /-- LDS (C5) -/
  | tierXLds
  /-- undefined C6 /1 (C6 /1) -/
  | tierXUndefinedC61
  /-- undefined C6 /2 (C6 /2) -/
  | tierXUndefinedC62
  /-- undefined C6 /3 (C6 /3) -/
  | tierXUndefinedC63
  /-- undefined C6 /4 (C6 /4) -/
  | tierXUndefinedC64
  /-- undefined C6 /5 (C6 /5) -/
  | tierXUndefinedC65
  /-- undefined C6 /6 (C6 /6) -/
  | tierXUndefinedC66
  /-- undefined C6 /7 (C6 /7) -/
  | tierXUndefinedC67
  /-- undefined C7 /1 (C7 /1) -/
  | tierXUndefinedC71
  /-- undefined C7 /2 (C7 /2) -/
  | tierXUndefinedC72
  /-- undefined C7 /3 (C7 /3) -/
  | tierXUndefinedC73
  /-- undefined C7 /4 (C7 /4) -/
  | tierXUndefinedC74
  /-- undefined C7 /5 (C7 /5) -/
  | tierXUndefinedC75
  /-- undefined C7 /6 (C7 /6) -/
  | tierXUndefinedC76
  /-- undefined C7 /7 (C7 /7) -/
  | tierXUndefinedC77
  /-- ENTER (C8) -/
  | tierXEnter
  /-- LEAVE (C9) -/
  | tierXLeave
  /-- INT 3 (CC) -/
  | tierXInt3
  /-- INTO (CE) -/
  | tierXInto
  /-- IRET (CF) -/
  | tierXIret
  /-- SALC (D6) -/
  | tierXSalc
  /-- XLAT (D7) -/
  | tierXXlat
  /-- ESC 0 (D8) -/
  | tierXEsc0
  /-- ESC 1 (D9) -/
  | tierXEsc1
  /-- ESC 2 (DA) -/
  | tierXEsc2
  /-- ESC 3 (DB) -/
  | tierXEsc3
  /-- ESC 4 (DC) -/
  | tierXEsc4
  /-- ESC 5 (DD) -/
  | tierXEsc5
  /-- ESC 6 (DE) -/
  | tierXEsc6
  /-- ESC 7 (DF) -/
  | tierXEsc7
  /-- IN AL,imm8 (E4) -/
  | tierXInAlImm8
  /-- IN AX,imm8 (E5) -/
  | tierXInAxImm8
  /-- OUT imm8,AL (E6) -/
  | tierXOutImm8Al
  /-- OUT imm8,AX (E7) -/
  | tierXOutImm8Ax
  /-- IN AL,DX (EC) -/
  | tierXInAlDx
  /-- IN AX,DX (ED) -/
  | tierXInAxDx
  /-- OUT DX,AL (EE) -/
  | tierXOutDxAl
  /-- OUT DX,AX (EF) -/
  | tierXOutDxAx
  /-- LOCK prefix (F0) -/
  | tierXLockPrefix
  /-- undefined F1 (F1) -/
  | tierXUndefinedF1
  /-- REPNE prefix (F2) -/
  | tierXRepnePrefix
  /-- REP/REPE prefix (F3) -/
  | tierXRepRepePrefix
  /-- CMC (F5) -/
  | tierXCmc
  /-- TEST r/m8 (F6 /0) -/
  | tierXTestRm8
  /-- TEST (alias) r/m8 (F6 /1) -/
  | tierXTestAliasRm8
  /-- NOT r/m8 (F6 /2) -/
  | tierXNotRm8
  /-- NEG r/m8 (F6 /3) -/
  | tierXNegRm8
  /-- MUL r/m8 (F6 /4) -/
  | tierXMulRm8
  /-- IMUL r/m8 (F6 /5) -/
  | tierXImulRm8
  /-- DIV r/m8 (F6 /6) -/
  | tierXDivRm8
  /-- IDIV r/m8 (F6 /7) -/
  | tierXIdivRm8
  /-- TEST r/m16 (F7 /0) -/
  | tierXTestRm16
  /-- TEST (alias) r/m16 (F7 /1) -/
  | tierXTestAliasRm16
  /-- NOT r/m16 (F7 /2) -/
  | tierXNotRm16
  /-- NEG r/m16 (F7 /3) -/
  | tierXNegRm16
  /-- MUL r/m16 (F7 /4) -/
  | tierXMulRm16
  /-- IMUL r/m16 (F7 /5) -/
  | tierXImulRm16
  /-- DIV r/m16 (F7 /6) -/
  | tierXDivRm16
  /-- IDIV r/m16 (F7 /7) -/
  | tierXIdivRm16
  /-- CLC (F8) -/
  | tierXClc
  /-- STC (F9) -/
  | tierXStc
  /-- CLI (FA) -/
  | tierXCli
  /-- STI (FB) -/
  | tierXSti
  /-- CLD (FC) -/
  | tierXCld
  /-- STD (FD) -/
  | tierXStd
  /-- undefined FE /2 (FE /2) -/
  | tierXUndefinedFE2
  /-- undefined FE /3 (FE /3) -/
  | tierXUndefinedFE3
  /-- undefined FE /4 (FE /4) -/
  | tierXUndefinedFE4
  /-- undefined FE /5 (FE /5) -/
  | tierXUndefinedFE5
  /-- undefined FE /6 (FE /6) -/
  | tierXUndefinedFE6
  /-- undefined FE /7 (FE /7) -/
  | tierXUndefinedFE7
  /-- CALL r/m16 (FF /2) -/
  | tierXCallRm16
  /-- CALL m16:16 (FF /3) -/
  | tierXCallM16m16
  /-- JMP r/m16 (FF /4) -/
  | tierXJmpRm16
  /-- JMP m16:16 (FF /5) -/
  | tierXJmpM16m16
  /-- undefined FF /7 (FF /7) -/
  | tierXUndefinedFF7
  deriving DecidableEq, Repr

end Sys2Proof
end

