-- ==== Sys2Proof/WellFormed.lean ====
section
/-! DEFINITION. Which terms of `Instr` are instructions of the machine. The one check there is: mode 0 with
r/m 6 is the direct form, so BP alone is no memory operand (spec/30_encoding.md R97). Every other field
value is legal (R121). -/

namespace Sys2Proof

/-- R97: `[BP]` without a displacement has no encoding. -/
def MemOperand.wf : MemOperand → Bool
  | .base .bp => false
  | .base _ | .direct _ | .disp8 _ _ | .disp16 _ _ => true

/-- An r/m operand is well formed when its memory operand is. -/
def RM.wf {R : Type} : RM R → Bool
  | .reg _ => true
  | .mem m => m.wf

/-- An instruction is well formed when its r/m operand is. -/
def Instr.wf : Instr → Bool
  | .addAlImm8 _ | .addAxImm16 _ | .pushEs | .popEs | .orAlImm8 _ | .orAxImm16 _ | .pushCs
  | .tierXPopCs | .adcAlImm8 _ | .adcAxImm16 _ | .pushSs | .popSs | .sbbAlImm8 _ | .sbbAxImm16 _
  | .pushDs | .popDs | .andAlImm8 _ | .andAxImm16 _ | .tierXEsPrefix | .daa | .subAlImm8 _
  | .subAxImm16 _ | .tierXCsPrefix | .das | .xorAlImm8 _ | .xorAxImm16 _ | .tierXSsPrefix | .aaa
  | .cmpAlImm8 _ | .cmpAxImm16 _ | .tierXDsPrefix | .aas | .incAx | .incCx | .incDx | .incBx | .incSp
  | .incBp | .incSi | .incDi | .decAx | .decCx | .decDx | .decBx | .decSp | .decBp | .decSi | .decDi
  | .pushAx | .pushCx | .pushDx | .pushBx | .pushSp | .pushBp | .pushSi | .pushDi | .popAx | .popCx
  | .popDx | .popBx | .popSp | .popBp | .popSi | .popDi | .tierXPusha | .tierXPopa | .tierXBound
  | .tierXUndefined63 | .tierXUndefined64 | .tierXUndefined65 | .tierXUndefined66 | .tierXUndefined67
  | .tierXPushImm16 | .tierXImulR16Rm16Imm16 | .tierXPushImm8 | .tierXImulR16Rm16Imm8 | .tierXInsb
  | .tierXInsw | .tierXOutsb | .tierXOutsw | .jo _ | .jno _ | .jb _ | .jae _ | .je _ | .jne _ | .jbe _
  | .ja _ | .js _ | .jns _ | .jp _ | .jnp _ | .jl _ | .jge _ | .jle _ | .jg _ | .tierXGroup1Alias82
  | .tierXTestRm8R8 | .tierXTestRm16R16 | .tierXXchgRm8R8 | .tierXXchgRm16R16 | .tierXMovRm16Sreg4
  | .tierXMovRm16Sreg5 | .tierXMovRm16Sreg6 | .tierXMovRm16Sreg7 | .tierXLea | .tierXMovCsRm16
  | .tierXMovSreg4Rm16 | .tierXMovSreg5Rm16 | .tierXMovSreg6Rm16 | .tierXMovSreg7Rm16
  | .tierXUndefined8F1 | .tierXUndefined8F2 | .tierXUndefined8F3 | .tierXUndefined8F4
  | .tierXUndefined8F5 | .tierXUndefined8F6 | .tierXUndefined8F7 | .tierXNop | .tierXXchgAxCx
  | .tierXXchgAxDx | .tierXXchgAxBx | .tierXXchgAxSp | .tierXXchgAxBp | .tierXXchgAxSi | .tierXXchgAxDi
  | .tierXCbw | .tierXCwd | .callFar _ _ | .tierXWait | .tierXPushf | .tierXPopf | .tierXSahf
  | .tierXLahf | .movAlMoffs _ | .movAxMoffs _ | .movMoffsAl _ | .movMoffsAx _ | .movsb | .movsw
  | .cmpsb | .cmpsw | .tierXTestAlImm8 | .tierXTestAxImm16 | .stosb | .stosw | .lodsb | .lodsw | .scasb
  | .scasw | .movAlImm8 _ | .movClImm8 _ | .movDlImm8 _ | .movBlImm8 _ | .movAhImm8 _ | .movChImm8 _
  | .movDhImm8 _ | .movBhImm8 _ | .movAxImm16 _ | .movCxImm16 _ | .movDxImm16 _ | .movBxImm16 _
  | .movSpImm16 _ | .movBpImm16 _ | .movSiImm16 _ | .movDiImm16 _ | .retPop _ | .ret | .tierXLes
  | .tierXLds | .tierXUndefinedC61 | .tierXUndefinedC62 | .tierXUndefinedC63 | .tierXUndefinedC64
  | .tierXUndefinedC65 | .tierXUndefinedC66 | .tierXUndefinedC67 | .tierXUndefinedC71
  | .tierXUndefinedC72 | .tierXUndefinedC73 | .tierXUndefinedC74 | .tierXUndefinedC75
  | .tierXUndefinedC76 | .tierXUndefinedC77 | .tierXEnter | .tierXLeave | .retfPop _ | .retf
  | .tierXInt3 | .int _ | .tierXInto | .tierXIret | .aam _ | .aad _ | .tierXSalc | .tierXXlat
  | .tierXEsc0 | .tierXEsc1 | .tierXEsc2 | .tierXEsc3 | .tierXEsc4 | .tierXEsc5 | .tierXEsc6
  | .tierXEsc7 | .loopne _ | .loope _ | .loop _ | .jcxz _ | .tierXInAlImm8 | .tierXInAxImm8
  | .tierXOutImm8Al | .tierXOutImm8Ax | .callNear _ | .jmpNear _ | .jmpFar _ _ | .jmpShort _
  | .tierXInAlDx | .tierXInAxDx | .tierXOutDxAl | .tierXOutDxAx | .tierXLockPrefix | .tierXUndefinedF1
  | .tierXRepnePrefix | .tierXRepRepePrefix | .hlt | .tierXCmc | .tierXTestRm8 | .tierXTestAliasRm8
  | .tierXNotRm8 | .tierXNegRm8 | .tierXMulRm8 | .tierXImulRm8 | .tierXDivRm8 | .tierXIdivRm8
  | .tierXTestRm16 | .tierXTestAliasRm16 | .tierXNotRm16 | .tierXNegRm16 | .tierXMulRm16
  | .tierXImulRm16 | .tierXDivRm16 | .tierXIdivRm16 | .tierXClc | .tierXStc | .tierXCli | .tierXSti
  | .tierXCld | .tierXStd | .tierXUndefinedFE2 | .tierXUndefinedFE3 | .tierXUndefinedFE4
  | .tierXUndefinedFE5 | .tierXUndefinedFE6 | .tierXUndefinedFE7 | .tierXCallRm16 | .tierXCallM16m16
  | .tierXJmpRm16 | .tierXJmpM16m16 | .tierXUndefinedFF7 => true
  | .addRm8R8 rm _ | .addR8Rm8 rm _ | .orRm8R8 rm _ | .orR8Rm8 rm _ | .adcRm8R8 rm _ | .adcR8Rm8 rm _
  | .sbbRm8R8 rm _ | .sbbR8Rm8 rm _ | .andRm8R8 rm _ | .andR8Rm8 rm _ | .subRm8R8 rm _ | .subR8Rm8 rm _
  | .xorRm8R8 rm _ | .xorR8Rm8 rm _ | .cmpRm8R8 rm _ | .cmpR8Rm8 rm _ | .addRm8Imm8 rm _
  | .orRm8Imm8 rm _ | .adcRm8Imm8 rm _ | .sbbRm8Imm8 rm _ | .andRm8Imm8 rm _ | .subRm8Imm8 rm _
  | .xorRm8Imm8 rm _ | .cmpRm8Imm8 rm _ | .movRm8R8 rm _ | .movR8Rm8 rm _ | .rolRm8Cnt rm _
  | .rorRm8Cnt rm _ | .rclRm8Cnt rm _ | .rcrRm8Cnt rm _ | .shlRm8Cnt rm _ | .shrRm8Cnt rm _
  | .salRm8Cnt rm _ | .sarRm8Cnt rm _ | .movRm8Imm8 rm _ | .rolRm8One rm | .rorRm8One rm
  | .rclRm8One rm | .rcrRm8One rm | .shlRm8One rm | .shrRm8One rm | .salRm8One rm | .sarRm8One rm
  | .rolRm8Cl rm | .rorRm8Cl rm | .rclRm8Cl rm | .rcrRm8Cl rm | .shlRm8Cl rm | .shrRm8Cl rm
  | .salRm8Cl rm | .sarRm8Cl rm | .incRm8 rm | .decRm8 rm => rm.wf
  | .addRm16R16 rm _ | .addR16Rm16 rm _ | .orRm16R16 rm _ | .orR16Rm16 rm _ | .adcRm16R16 rm _
  | .adcR16Rm16 rm _ | .sbbRm16R16 rm _ | .sbbR16Rm16 rm _ | .andRm16R16 rm _ | .andR16Rm16 rm _
  | .subRm16R16 rm _ | .subR16Rm16 rm _ | .xorRm16R16 rm _ | .xorR16Rm16 rm _ | .cmpRm16R16 rm _
  | .cmpR16Rm16 rm _ | .addRm16Imm16 rm _ | .orRm16Imm16 rm _ | .adcRm16Imm16 rm _ | .sbbRm16Imm16 rm _
  | .andRm16Imm16 rm _ | .subRm16Imm16 rm _ | .xorRm16Imm16 rm _ | .cmpRm16Imm16 rm _
  | .addRm16Simm8 rm _ | .orRm16Simm8 rm _ | .adcRm16Simm8 rm _ | .sbbRm16Simm8 rm _
  | .andRm16Simm8 rm _ | .subRm16Simm8 rm _ | .xorRm16Simm8 rm _ | .cmpRm16Simm8 rm _
  | .movRm16R16 rm _ | .movR16Rm16 rm _ | .movRm16Es rm | .movRm16Cs rm | .movRm16Ss rm | .movRm16Ds rm
  | .movEsRm16 rm | .movSsRm16 rm | .movDsRm16 rm | .popRm16 rm | .rolRm16Cnt rm _ | .rorRm16Cnt rm _
  | .rclRm16Cnt rm _ | .rcrRm16Cnt rm _ | .shlRm16Cnt rm _ | .shrRm16Cnt rm _ | .salRm16Cnt rm _
  | .sarRm16Cnt rm _ | .movRm16Imm16 rm _ | .rolRm16One rm | .rorRm16One rm | .rclRm16One rm
  | .rcrRm16One rm | .shlRm16One rm | .shrRm16One rm | .salRm16One rm | .sarRm16One rm | .rolRm16Cl rm
  | .rorRm16Cl rm | .rclRm16Cl rm | .rcrRm16Cl rm | .shlRm16Cl rm | .shrRm16Cl rm | .salRm16Cl rm
  | .sarRm16Cl rm | .incRm16 rm | .decRm16 rm | .pushRm16 rm => rm.wf

end Sys2Proof
end

