-- ==== Sys2Proof/Decode.lean ====
section
/-! DEFINITION. The decoder, total on any list of bytes, and after it the encoder, both from the opcode map
of spec/30_encoding.md R110 to R115 and the formats of R107. Every first byte has an entry, so the only
refusal is of a list that ends before its instruction does. -/

namespace Sys2Proof

/-- Why a list of bytes is no instruction. -/
inductive DecodeError where
  /-- The list ends before the instruction does; raised by the decoder only. -/
  | truncated
  deriving DecidableEq, Repr

/-- R93: the longest instruction has 6 bytes. -/
def maxInstrLength : Nat := 6

/-! ### The fields of an instruction -/

/-- R23. -/
def Reg8.code : Reg8 → BitVec 3
  | .al => 0 | .cl => 1 | .dl => 2 | .bl => 3 | .ah => 4 | .ch => 5 | .dh => 6 | .bh => 7

/-- R23: `reg8[c]`. -/
def Reg8.ofCode (c : BitVec 3) : Reg8 :=
  match c.toNat with
  | 0 => .al | 1 => .cl | 2 => .dl | 3 => .bl | 4 => .ah | 5 => .ch | 6 => .dh | _ => .bh

/-- R24. -/
def Reg16.code : Reg16 → BitVec 3
  | .ax => 0 | .cx => 1 | .dx => 2 | .bx => 3 | .sp => 4 | .bp => 5 | .si => 6 | .di => 7

/-- R24: `reg16[c]`. -/
def Reg16.ofCode (c : BitVec 3) : Reg16 :=
  match c.toNat with
  | 0 => .ax | 1 => .cx | 2 => .dx | 3 => .bx | 4 => .sp | 5 => .bp | 6 => .si | _ => .di

/-- R96. -/
def Base.code : Base → BitVec 3
  | .bxSi => 0 | .bxDi => 1 | .bpSi => 2 | .bpDi => 3 | .si => 4 | .di => 5 | .bp => 6 | .bx => 7

/-- R96: the base expression of an r/m code (in mode 0, code 6 is the direct form instead). -/
def Base.ofCode (c : BitVec 3) : Base :=
  match c.toNat with
  | 0 => .bxSi | 1 => .bxDi | 2 => .bpSi | 3 => .bpDi | 4 => .si | 5 => .di | 6 => .bp | _ => .bx

/-- R94: `mode = b[7:6]`. -/
def modeField (b : Byte) : BitVec 2 := b.extractLsb' 6 2

/-- R94: `reg = b[5:3]`. -/
def regField (b : Byte) : BitVec 3 := b.extractLsb' 3 3

/-- R94: `rm = b[2:0]`. -/
def rmField (b : Byte) : BitVec 3 := b.extractLsb' 0 3

/-- R94: the ModR/M byte with the given fields. -/
def modRMByte (mode : BitVec 2) (reg rm : BitVec 3) : Byte := mode ++ reg ++ rm

/-! ### Reading the stream -/

/-- What a reader of the stream answers: the value and the bytes that follow it. -/
abbrev Decoded (α : Type) := Except DecodeError (α × List Byte)

/-- R91: the next byte. -/
def takeByte : List Byte → Decoded Byte
  | [] => .error .truncated
  | b :: rest => .ok (b, rest)

/-- R91: the next word, low byte first. -/
def takeWord : List Byte → Decoded Word
  | lo :: hi :: rest => .ok (joinBytes hi lo, rest)
  | _ => .error .truncated

/-- R95 to R97: the r/m operand of a ModR/M byte with the given mode and r/m fields, with the
displacement bytes it takes from the stream. -/
def takeRM {R : Type} (ofCode : BitVec 3 → R) (mode : BitVec 2) (rm : BitVec 3)
    (bytes : List Byte) : Decoded (RM R) :=
  match mode.toNat with
  | 0 =>
    if rm = 6 then (takeWord bytes).map fun (off, rest) => (.mem (.direct off), rest)
    else .ok (.mem (.base (Base.ofCode rm)), bytes)
  | 1 => (takeByte bytes).map fun (d, rest) => (.mem (.disp8 (Base.ofCode rm) d), rest)
  | 2 => (takeWord bytes).map fun (d, rest) => (.mem (.disp16 (Base.ofCode rm) d), rest)
  | _ => .ok (.reg (ofCode rm), bytes)

/-! ### The opcode map -/

/-- What one value of the reg field selects in a group opcode: the operands that follow (R107) and
the instruction they make. -/
inductive GroupEntry where
  | rm8 (mk : RM8 → Instr)
  | rm16 (mk : RM16 → Instr)
  | rm8i8 (mk : RM8 → Byte → Instr)
  | rm16i8 (mk : RM16 → Byte → Instr)
  | rm16i16 (mk : RM16 → Word → Instr)
  /-- A sub-operation outside the recognized set: the ModR/M byte has been read, its mode and r/m
  fields select nothing, and no byte after it is read (R115). -/
  | x (i : Instr)

/-- What a first byte selects: the format of R107 and the instruction its fields make. -/
inductive Entry where
  /-- `OP`: no operand bytes. -/
  | op (i : Instr)
  /-- `OP_I8`, `OP_REL8`: one byte. -/
  | i8 (mk : Byte → Instr)
  /-- `OP_I16`, `OP_REL16`, `OP_MOFFS`: one word. -/
  | i16 (mk : Word → Instr)
  /-- `OP_FAR`: the offset word, then the segment word. -/
  | far (mk : Word → Word → Instr)
  /-- `OP_MRM` of a byte operation whose reg field selects a byte register. -/
  | mrm8 (mk : RM8 → Reg8 → Instr)
  /-- `OP_MRM` of a word operation whose reg field selects a word register. -/
  | mrm16 (mk : RM16 → Reg16 → Instr)
  /-- A ModR/M byte whose reg field selects the sub-operation, /0 to /7. -/
  | group (g0 g1 g2 g3 g4 g5 g6 g7 : GroupEntry)

/-- R110, bytes 00 to 0F. -/
def opcodeRow0 : List Entry :=
  [.mrm8 .addRm8R8, .mrm16 .addRm16R16, .mrm8 .addR8Rm8, .mrm16 .addR16Rm16, .i8 .addAlImm8,
   .i16 .addAxImm16, .op .pushEs, .op .popEs, .mrm8 .orRm8R8, .mrm16 .orRm16R16, .mrm8 .orR8Rm8,
   .mrm16 .orR16Rm16, .i8 .orAlImm8, .i16 .orAxImm16, .op .pushCs, .op .tierXPopCs]

/-- R110, bytes 10 to 1F. -/
def opcodeRow1 : List Entry :=
  [.mrm8 .adcRm8R8, .mrm16 .adcRm16R16, .mrm8 .adcR8Rm8, .mrm16 .adcR16Rm16, .i8 .adcAlImm8,
   .i16 .adcAxImm16, .op .pushSs, .op .popSs, .mrm8 .sbbRm8R8, .mrm16 .sbbRm16R16,
   .mrm8 .sbbR8Rm8, .mrm16 .sbbR16Rm16, .i8 .sbbAlImm8, .i16 .sbbAxImm16, .op .pushDs, .op .popDs]

/-- R110, bytes 20 to 2F. -/
def opcodeRow2 : List Entry :=
  [.mrm8 .andRm8R8, .mrm16 .andRm16R16, .mrm8 .andR8Rm8, .mrm16 .andR16Rm16, .i8 .andAlImm8,
   .i16 .andAxImm16, .op .tierXEsPrefix, .op .daa, .mrm8 .subRm8R8, .mrm16 .subRm16R16,
   .mrm8 .subR8Rm8, .mrm16 .subR16Rm16, .i8 .subAlImm8, .i16 .subAxImm16, .op .tierXCsPrefix,
   .op .das]

/-- R110, bytes 30 to 3F. -/
def opcodeRow3 : List Entry :=
  [.mrm8 .xorRm8R8, .mrm16 .xorRm16R16, .mrm8 .xorR8Rm8, .mrm16 .xorR16Rm16, .i8 .xorAlImm8,
   .i16 .xorAxImm16, .op .tierXSsPrefix, .op .aaa, .mrm8 .cmpRm8R8, .mrm16 .cmpRm16R16,
   .mrm8 .cmpR8Rm8, .mrm16 .cmpR16Rm16, .i8 .cmpAlImm8, .i16 .cmpAxImm16, .op .tierXDsPrefix,
   .op .aas]

/-- R110, bytes 40 to 4F. -/
def opcodeRow4 : List Entry :=
  [.op .incAx, .op .incCx, .op .incDx, .op .incBx, .op .incSp, .op .incBp, .op .incSi, .op .incDi,
   .op .decAx, .op .decCx, .op .decDx, .op .decBx, .op .decSp, .op .decBp, .op .decSi, .op .decDi]

/-- R110, bytes 50 to 5F. -/
def opcodeRow5 : List Entry :=
  [.op .pushAx, .op .pushCx, .op .pushDx, .op .pushBx, .op .pushSp, .op .pushBp, .op .pushSi,
   .op .pushDi, .op .popAx, .op .popCx, .op .popDx, .op .popBx, .op .popSp, .op .popBp,
   .op .popSi, .op .popDi]

/-- R110, bytes 60 to 6F. -/
def opcodeRow6 : List Entry :=
  [.op .tierXPusha, .op .tierXPopa, .op .tierXBound, .op .tierXUndefined63, .op .tierXUndefined64,
   .op .tierXUndefined65, .op .tierXUndefined66, .op .tierXUndefined67, .op .tierXPushImm16,
   .op .tierXImulR16Rm16Imm16, .op .tierXPushImm8, .op .tierXImulR16Rm16Imm8, .op .tierXInsb,
   .op .tierXInsw, .op .tierXOutsb, .op .tierXOutsw]

/-- R110, bytes 70 to 7F. -/
def opcodeRow7 : List Entry :=
  [.i8 .jo, .i8 .jno, .i8 .jb, .i8 .jae, .i8 .je, .i8 .jne, .i8 .jbe, .i8 .ja, .i8 .js, .i8 .jns,
   .i8 .jp, .i8 .jnp, .i8 .jl, .i8 .jge, .i8 .jle, .i8 .jg]

/-- R110, bytes 80 to 8F. -/
def opcodeRow8 : List Entry :=
  [.group (.rm8i8 .addRm8Imm8) (.rm8i8 .orRm8Imm8) (.rm8i8 .adcRm8Imm8) (.rm8i8 .sbbRm8Imm8)
      (.rm8i8 .andRm8Imm8) (.rm8i8 .subRm8Imm8) (.rm8i8 .xorRm8Imm8) (.rm8i8 .cmpRm8Imm8),
   .group (.rm16i16 .addRm16Imm16) (.rm16i16 .orRm16Imm16) (.rm16i16 .adcRm16Imm16)
      (.rm16i16 .sbbRm16Imm16) (.rm16i16 .andRm16Imm16) (.rm16i16 .subRm16Imm16)
      (.rm16i16 .xorRm16Imm16) (.rm16i16 .cmpRm16Imm16),
   .op .tierXGroup1Alias82,
   .group (.rm16i8 .addRm16Simm8) (.rm16i8 .orRm16Simm8) (.rm16i8 .adcRm16Simm8)
      (.rm16i8 .sbbRm16Simm8) (.rm16i8 .andRm16Simm8) (.rm16i8 .subRm16Simm8) (.rm16i8 .xorRm16Simm8)
      (.rm16i8 .cmpRm16Simm8),
   .op .tierXTestRm8R8, .op .tierXTestRm16R16, .op .tierXXchgRm8R8, .op .tierXXchgRm16R16,
   .mrm8 .movRm8R8, .mrm16 .movRm16R16, .mrm8 .movR8Rm8, .mrm16 .movR16Rm16,
   .group (.rm16 .movRm16Es) (.rm16 .movRm16Cs) (.rm16 .movRm16Ss) (.rm16 .movRm16Ds)
      (.x .tierXMovRm16Sreg4) (.x .tierXMovRm16Sreg5) (.x .tierXMovRm16Sreg6) (.x .tierXMovRm16Sreg7),
   .op .tierXLea,
   .group (.rm16 .movEsRm16) (.x .tierXMovCsRm16) (.rm16 .movSsRm16) (.rm16 .movDsRm16)
      (.x .tierXMovSreg4Rm16) (.x .tierXMovSreg5Rm16) (.x .tierXMovSreg6Rm16) (.x .tierXMovSreg7Rm16),
   .group (.rm16 .popRm16) (.x .tierXUndefined8F1) (.x .tierXUndefined8F2) (.x .tierXUndefined8F3)
      (.x .tierXUndefined8F4) (.x .tierXUndefined8F5) (.x .tierXUndefined8F6) (.x .tierXUndefined8F7)]

/-- R110, bytes 90 to 9F. -/
def opcodeRow9 : List Entry :=
  [.op .tierXNop, .op .tierXXchgAxCx, .op .tierXXchgAxDx, .op .tierXXchgAxBx, .op .tierXXchgAxSp,
   .op .tierXXchgAxBp, .op .tierXXchgAxSi, .op .tierXXchgAxDi, .op .tierXCbw, .op .tierXCwd,
   .far .callFar, .op .tierXWait, .op .tierXPushf, .op .tierXPopf, .op .tierXSahf, .op .tierXLahf]

/-- R110, bytes A0 to AF. -/
def opcodeRowA : List Entry :=
  [.i16 .movAlMoffs, .i16 .movAxMoffs, .i16 .movMoffsAl, .i16 .movMoffsAx, .op .movsb, .op .movsw,
   .op .cmpsb, .op .cmpsw, .op .tierXTestAlImm8, .op .tierXTestAxImm16, .op .stosb, .op .stosw,
   .op .lodsb, .op .lodsw, .op .scasb, .op .scasw]

/-- R110, bytes B0 to BF. -/
def opcodeRowB : List Entry :=
  [.i8 .movAlImm8, .i8 .movClImm8, .i8 .movDlImm8, .i8 .movBlImm8, .i8 .movAhImm8, .i8 .movChImm8,
   .i8 .movDhImm8, .i8 .movBhImm8, .i16 .movAxImm16, .i16 .movCxImm16, .i16 .movDxImm16,
   .i16 .movBxImm16, .i16 .movSpImm16, .i16 .movBpImm16, .i16 .movSiImm16, .i16 .movDiImm16]

/-- R110, bytes C0 to CF. -/
def opcodeRowC : List Entry :=
  [.group (.rm8i8 .rolRm8Cnt) (.rm8i8 .rorRm8Cnt) (.rm8i8 .rclRm8Cnt) (.rm8i8 .rcrRm8Cnt)
      (.rm8i8 .shlRm8Cnt) (.rm8i8 .shrRm8Cnt) (.rm8i8 .salRm8Cnt) (.rm8i8 .sarRm8Cnt),
   .group (.rm16i8 .rolRm16Cnt) (.rm16i8 .rorRm16Cnt) (.rm16i8 .rclRm16Cnt) (.rm16i8 .rcrRm16Cnt)
      (.rm16i8 .shlRm16Cnt) (.rm16i8 .shrRm16Cnt) (.rm16i8 .salRm16Cnt) (.rm16i8 .sarRm16Cnt),
   .i16 .retPop, .op .ret, .op .tierXLes, .op .tierXLds,
   .group (.rm8i8 .movRm8Imm8) (.x .tierXUndefinedC61) (.x .tierXUndefinedC62)
      (.x .tierXUndefinedC63) (.x .tierXUndefinedC64) (.x .tierXUndefinedC65) (.x .tierXUndefinedC66)
      (.x .tierXUndefinedC67),
   .group (.rm16i16 .movRm16Imm16) (.x .tierXUndefinedC71) (.x .tierXUndefinedC72)
      (.x .tierXUndefinedC73) (.x .tierXUndefinedC74) (.x .tierXUndefinedC75) (.x .tierXUndefinedC76)
      (.x .tierXUndefinedC77),
   .op .tierXEnter, .op .tierXLeave, .i16 .retfPop, .op .retf, .op .tierXInt3, .i8 .int,
   .op .tierXInto, .op .tierXIret]

/-- R110, bytes D0 to DF. -/
def opcodeRowD : List Entry :=
  [.group (.rm8 .rolRm8One) (.rm8 .rorRm8One) (.rm8 .rclRm8One) (.rm8 .rcrRm8One)
      (.rm8 .shlRm8One) (.rm8 .shrRm8One) (.rm8 .salRm8One) (.rm8 .sarRm8One),
   .group (.rm16 .rolRm16One) (.rm16 .rorRm16One) (.rm16 .rclRm16One) (.rm16 .rcrRm16One)
      (.rm16 .shlRm16One) (.rm16 .shrRm16One) (.rm16 .salRm16One) (.rm16 .sarRm16One),
   .group (.rm8 .rolRm8Cl) (.rm8 .rorRm8Cl) (.rm8 .rclRm8Cl) (.rm8 .rcrRm8Cl) (.rm8 .shlRm8Cl)
      (.rm8 .shrRm8Cl) (.rm8 .salRm8Cl) (.rm8 .sarRm8Cl),
   .group (.rm16 .rolRm16Cl) (.rm16 .rorRm16Cl) (.rm16 .rclRm16Cl) (.rm16 .rcrRm16Cl)
      (.rm16 .shlRm16Cl) (.rm16 .shrRm16Cl) (.rm16 .salRm16Cl) (.rm16 .sarRm16Cl),
   .i8 .aam, .i8 .aad, .op .tierXSalc, .op .tierXXlat, .op .tierXEsc0, .op .tierXEsc1,
   .op .tierXEsc2, .op .tierXEsc3, .op .tierXEsc4, .op .tierXEsc5, .op .tierXEsc6, .op .tierXEsc7]

/-- R110, bytes E0 to EF. -/
def opcodeRowE : List Entry :=
  [.i8 .loopne, .i8 .loope, .i8 .loop, .i8 .jcxz, .op .tierXInAlImm8, .op .tierXInAxImm8,
   .op .tierXOutImm8Al, .op .tierXOutImm8Ax, .i16 .callNear, .i16 .jmpNear, .far .jmpFar,
   .i8 .jmpShort, .op .tierXInAlDx, .op .tierXInAxDx, .op .tierXOutDxAl, .op .tierXOutDxAx]

/-- R110, bytes F0 to FF. -/
def opcodeRowF : List Entry :=
  [.op .tierXLockPrefix, .op .tierXUndefinedF1, .op .tierXRepnePrefix, .op .tierXRepRepePrefix,
   .op .hlt, .op .tierXCmc,
   .group (.x .tierXTestRm8) (.x .tierXTestAliasRm8) (.x .tierXNotRm8) (.x .tierXNegRm8)
      (.x .tierXMulRm8) (.x .tierXImulRm8) (.x .tierXDivRm8) (.x .tierXIdivRm8),
   .group (.x .tierXTestRm16) (.x .tierXTestAliasRm16) (.x .tierXNotRm16) (.x .tierXNegRm16)
      (.x .tierXMulRm16) (.x .tierXImulRm16) (.x .tierXDivRm16) (.x .tierXIdivRm16),
   .op .tierXClc, .op .tierXStc, .op .tierXCli, .op .tierXSti, .op .tierXCld, .op .tierXStd,
   .group (.rm8 .incRm8) (.rm8 .decRm8) (.x .tierXUndefinedFE2) (.x .tierXUndefinedFE3)
      (.x .tierXUndefinedFE4) (.x .tierXUndefinedFE5) (.x .tierXUndefinedFE6) (.x .tierXUndefinedFE7),
   .group (.rm16 .incRm16) (.rm16 .decRm16) (.x .tierXCallRm16) (.x .tierXCallM16m16)
      (.x .tierXJmpRm16) (.x .tierXJmpM16m16) (.rm16 .pushRm16) (.x .tierXUndefinedFF7)]

/-- R110: the opcode map, indexed by the first byte. -/
def opcodeMap : List Entry :=
  opcodeRow0 ++ opcodeRow1 ++ opcodeRow2 ++ opcodeRow3 ++ opcodeRow4 ++ opcodeRow5 ++ opcodeRow6 ++
  opcodeRow7 ++ opcodeRow8 ++ opcodeRow9 ++ opcodeRowA ++ opcodeRowB ++ opcodeRowC ++ opcodeRowD ++
  opcodeRowE ++ opcodeRowF

/-- R110: the entry of a first byte. The map has 256 rows, so the default is never taken. -/
def entryOf (op : Byte) : Entry := opcodeMap.getD op.toNat (.op .tierXUndefinedF1)

/-- R101: the sub-operation a reg field selects among eight. -/
def selectGroup (reg : BitVec 3) (g0 g1 g2 g3 g4 g5 g6 g7 : GroupEntry) : GroupEntry :=
  match reg.toNat with
  | 0 => g0 | 1 => g1 | 2 => g2 | 3 => g3 | 4 => g4 | 5 => g5 | 6 => g6 | _ => g7

/-- R107: reads the operands of a group entry after its ModR/M byte `b`. -/
def GroupEntry.read (b : Byte) (bytes : List Byte) : GroupEntry → Decoded Instr
  | .rm8 mk => (takeRM Reg8.ofCode (modeField b) (rmField b) bytes).map fun (rm, rest) => (mk rm, rest)
  | .rm16 mk => (takeRM Reg16.ofCode (modeField b) (rmField b) bytes).map fun (rm, rest) => (mk rm, rest)
  | .rm8i8 mk =>
    (takeRM Reg8.ofCode (modeField b) (rmField b) bytes).bind fun (rm, rest) =>
      (takeByte rest).map fun (imm, rest') => (mk rm imm, rest')
  | .rm16i8 mk =>
    (takeRM Reg16.ofCode (modeField b) (rmField b) bytes).bind fun (rm, rest) =>
      (takeByte rest).map fun (imm, rest') => (mk rm imm, rest')
  | .rm16i16 mk =>
    (takeRM Reg16.ofCode (modeField b) (rmField b) bytes).bind fun (rm, rest) =>
      (takeWord rest).map fun (imm, rest') => (mk rm imm, rest')
  | .x i => .ok (i, bytes)

/-- R91, R107: reads the operands of an entry after its opcode byte, in stream order. -/
def Entry.read (bytes : List Byte) : Entry → Decoded Instr
  | .op i => .ok (i, bytes)
  | .i8 mk => (takeByte bytes).map fun (imm, rest) => (mk imm, rest)
  | .i16 mk => (takeWord bytes).map fun (imm, rest) => (mk imm, rest)
  | .far mk =>
    (takeWord bytes).bind fun (off, rest) =>
      (takeWord rest).map fun (seg, rest') => (mk off seg, rest')
  | .mrm8 mk =>
    (takeByte bytes).bind fun (b, rest) =>
      (takeRM Reg8.ofCode (modeField b) (rmField b) rest).map fun (rm, rest') =>
        (mk rm (Reg8.ofCode (regField b)), rest')
  | .mrm16 mk =>
    (takeByte bytes).bind fun (b, rest) =>
      (takeRM Reg16.ofCode (modeField b) (rmField b) rest).map fun (rm, rest') =>
        (mk rm (Reg16.ofCode (regField b)), rest')
  | .group g0 g1 g2 g3 g4 g5 g6 g7 =>
    (takeByte bytes).bind fun (b, rest) =>
      (selectGroup (regField b) g0 g1 g2 g3 g4 g5 g6 g7).read b rest

/-- R90 to R93, R342 (Dispatching): the instruction at the head of a list of bytes, and the bytes
after it. -/
def decode : List Byte → Decoded Instr
  | [] => .error .truncated
  | op :: bytes => (entryOf op).read bytes

/-! ### The words of the opcode table -/

/-- R127: the bytes of an instruction given as a number with the bit numbers of
spec/opcode_table.json, whose 16-bit window is `(byte0 << 8) | byte1`: byte 0 is bits 15..8, byte 1
bits 7..0, and bytes 2 to 5, for which the table has no bits, are bits 23..16 and up. A one-byte
number is byte 0. Bits from `nbits` up are 0. DEDUCED
from R127 (notes/assumptions/4.md). -/
def tableBytes (nbits w : Nat) : List Byte :=
  let v := w % 2 ^ nbits
  let byteAt (k : Nat) : Byte := BitVec.ofNat 8 (v / 2 ^ k)
  if nbits ≤ 8 then [byteAt 0, 0, 0, 0, 0, 0]
  else [byteAt 8, byteAt 0, byteAt 16, byteAt 24, byteAt 32, byteAt 40]

/-- The instruction the decoder reads from a word of the opcode table. -/
def decodeTableWord (nbits w : Nat) : Option Instr :=
  match decode (tableBytes nbits w) with
  | .ok (i, _) => some i
  | .error _ => none

/-! ### The encoder -/

/-- R91: a word in the stream, low byte first. -/
def wordBytes (v : Word) : List Byte := [lowByte v, highByte v]

/-- R94 to R97: the ModR/M byte of an r/m operand and the displacement bytes after it. -/
def rmBytes {R : Type} (code : R → BitVec 3) (reg : BitVec 3) : RM R → List Byte
  | .reg r => [modRMByte 3 reg (code r)]
  | .mem (.direct off) => modRMByte 0 reg 6 :: wordBytes off
  | .mem (.base b) => [modRMByte 0 reg b.code]
  | .mem (.disp8 b d) => [modRMByte 1 reg b.code, d]
  | .mem (.disp16 b d) => modRMByte 2 reg b.code :: wordBytes d

/-- R107, R110 to R115: the bytes of an instruction. Where the mode and r/m fields of a ModR/M byte
select nothing (an unrecognized sub-operation), they are 0. -/
def encode : Instr → List Byte
  | .addRm8R8 rm r => 0x00 :: rmBytes Reg8.code r.code rm
  | .addRm16R16 rm r => 0x01 :: rmBytes Reg16.code r.code rm
  | .addR8Rm8 rm r => 0x02 :: rmBytes Reg8.code r.code rm
  | .addR16Rm16 rm r => 0x03 :: rmBytes Reg16.code r.code rm
  | .addAlImm8 imm => [0x04, imm]
  | .addAxImm16 imm => 0x05 :: wordBytes imm
  | .pushEs => [0x06]
  | .popEs => [0x07]
  | .orRm8R8 rm r => 0x08 :: rmBytes Reg8.code r.code rm
  | .orRm16R16 rm r => 0x09 :: rmBytes Reg16.code r.code rm
  | .orR8Rm8 rm r => 0x0A :: rmBytes Reg8.code r.code rm
  | .orR16Rm16 rm r => 0x0B :: rmBytes Reg16.code r.code rm
  | .orAlImm8 imm => [0x0C, imm]
  | .orAxImm16 imm => 0x0D :: wordBytes imm
  | .pushCs => [0x0E]
  | .tierXPopCs => [0x0F]
  | .adcRm8R8 rm r => 0x10 :: rmBytes Reg8.code r.code rm
  | .adcRm16R16 rm r => 0x11 :: rmBytes Reg16.code r.code rm
  | .adcR8Rm8 rm r => 0x12 :: rmBytes Reg8.code r.code rm
  | .adcR16Rm16 rm r => 0x13 :: rmBytes Reg16.code r.code rm
  | .adcAlImm8 imm => [0x14, imm]
  | .adcAxImm16 imm => 0x15 :: wordBytes imm
  | .pushSs => [0x16]
  | .popSs => [0x17]
  | .sbbRm8R8 rm r => 0x18 :: rmBytes Reg8.code r.code rm
  | .sbbRm16R16 rm r => 0x19 :: rmBytes Reg16.code r.code rm
  | .sbbR8Rm8 rm r => 0x1A :: rmBytes Reg8.code r.code rm
  | .sbbR16Rm16 rm r => 0x1B :: rmBytes Reg16.code r.code rm
  | .sbbAlImm8 imm => [0x1C, imm]
  | .sbbAxImm16 imm => 0x1D :: wordBytes imm
  | .pushDs => [0x1E]
  | .popDs => [0x1F]
  | .andRm8R8 rm r => 0x20 :: rmBytes Reg8.code r.code rm
  | .andRm16R16 rm r => 0x21 :: rmBytes Reg16.code r.code rm
  | .andR8Rm8 rm r => 0x22 :: rmBytes Reg8.code r.code rm
  | .andR16Rm16 rm r => 0x23 :: rmBytes Reg16.code r.code rm
  | .andAlImm8 imm => [0x24, imm]
  | .andAxImm16 imm => 0x25 :: wordBytes imm
  | .tierXEsPrefix => [0x26]
  | .daa => [0x27]
  | .subRm8R8 rm r => 0x28 :: rmBytes Reg8.code r.code rm
  | .subRm16R16 rm r => 0x29 :: rmBytes Reg16.code r.code rm
  | .subR8Rm8 rm r => 0x2A :: rmBytes Reg8.code r.code rm
  | .subR16Rm16 rm r => 0x2B :: rmBytes Reg16.code r.code rm
  | .subAlImm8 imm => [0x2C, imm]
  | .subAxImm16 imm => 0x2D :: wordBytes imm
  | .tierXCsPrefix => [0x2E]
  | .das => [0x2F]
  | .xorRm8R8 rm r => 0x30 :: rmBytes Reg8.code r.code rm
  | .xorRm16R16 rm r => 0x31 :: rmBytes Reg16.code r.code rm
  | .xorR8Rm8 rm r => 0x32 :: rmBytes Reg8.code r.code rm
  | .xorR16Rm16 rm r => 0x33 :: rmBytes Reg16.code r.code rm
  | .xorAlImm8 imm => [0x34, imm]
  | .xorAxImm16 imm => 0x35 :: wordBytes imm
  | .tierXSsPrefix => [0x36]
  | .aaa => [0x37]
  | .cmpRm8R8 rm r => 0x38 :: rmBytes Reg8.code r.code rm
  | .cmpRm16R16 rm r => 0x39 :: rmBytes Reg16.code r.code rm
  | .cmpR8Rm8 rm r => 0x3A :: rmBytes Reg8.code r.code rm
  | .cmpR16Rm16 rm r => 0x3B :: rmBytes Reg16.code r.code rm
  | .cmpAlImm8 imm => [0x3C, imm]
  | .cmpAxImm16 imm => 0x3D :: wordBytes imm
  | .tierXDsPrefix => [0x3E]
  | .aas => [0x3F]
  | .incAx => [0x40]
  | .incCx => [0x41]
  | .incDx => [0x42]
  | .incBx => [0x43]
  | .incSp => [0x44]
  | .incBp => [0x45]
  | .incSi => [0x46]
  | .incDi => [0x47]
  | .decAx => [0x48]
  | .decCx => [0x49]
  | .decDx => [0x4A]
  | .decBx => [0x4B]
  | .decSp => [0x4C]
  | .decBp => [0x4D]
  | .decSi => [0x4E]
  | .decDi => [0x4F]
  | .pushAx => [0x50]
  | .pushCx => [0x51]
  | .pushDx => [0x52]
  | .pushBx => [0x53]
  | .pushSp => [0x54]
  | .pushBp => [0x55]
  | .pushSi => [0x56]
  | .pushDi => [0x57]
  | .popAx => [0x58]
  | .popCx => [0x59]
  | .popDx => [0x5A]
  | .popBx => [0x5B]
  | .popSp => [0x5C]
  | .popBp => [0x5D]
  | .popSi => [0x5E]
  | .popDi => [0x5F]
  | .tierXPusha => [0x60]
  | .tierXPopa => [0x61]
  | .tierXBound => [0x62]
  | .tierXUndefined63 => [0x63]
  | .tierXUndefined64 => [0x64]
  | .tierXUndefined65 => [0x65]
  | .tierXUndefined66 => [0x66]
  | .tierXUndefined67 => [0x67]
  | .tierXPushImm16 => [0x68]
  | .tierXImulR16Rm16Imm16 => [0x69]
  | .tierXPushImm8 => [0x6A]
  | .tierXImulR16Rm16Imm8 => [0x6B]
  | .tierXInsb => [0x6C]
  | .tierXInsw => [0x6D]
  | .tierXOutsb => [0x6E]
  | .tierXOutsw => [0x6F]
  | .jo rel => [0x70, rel]
  | .jno rel => [0x71, rel]
  | .jb rel => [0x72, rel]
  | .jae rel => [0x73, rel]
  | .je rel => [0x74, rel]
  | .jne rel => [0x75, rel]
  | .jbe rel => [0x76, rel]
  | .ja rel => [0x77, rel]
  | .js rel => [0x78, rel]
  | .jns rel => [0x79, rel]
  | .jp rel => [0x7A, rel]
  | .jnp rel => [0x7B, rel]
  | .jl rel => [0x7C, rel]
  | .jge rel => [0x7D, rel]
  | .jle rel => [0x7E, rel]
  | .jg rel => [0x7F, rel]
  | .addRm8Imm8 rm imm => 0x80 :: (rmBytes Reg8.code 0 rm ++ [imm])
  | .orRm8Imm8 rm imm => 0x80 :: (rmBytes Reg8.code 1 rm ++ [imm])
  | .adcRm8Imm8 rm imm => 0x80 :: (rmBytes Reg8.code 2 rm ++ [imm])
  | .sbbRm8Imm8 rm imm => 0x80 :: (rmBytes Reg8.code 3 rm ++ [imm])
  | .andRm8Imm8 rm imm => 0x80 :: (rmBytes Reg8.code 4 rm ++ [imm])
  | .subRm8Imm8 rm imm => 0x80 :: (rmBytes Reg8.code 5 rm ++ [imm])
  | .xorRm8Imm8 rm imm => 0x80 :: (rmBytes Reg8.code 6 rm ++ [imm])
  | .cmpRm8Imm8 rm imm => 0x80 :: (rmBytes Reg8.code 7 rm ++ [imm])
  | .addRm16Imm16 rm imm => 0x81 :: (rmBytes Reg16.code 0 rm ++ wordBytes imm)
  | .orRm16Imm16 rm imm => 0x81 :: (rmBytes Reg16.code 1 rm ++ wordBytes imm)
  | .adcRm16Imm16 rm imm => 0x81 :: (rmBytes Reg16.code 2 rm ++ wordBytes imm)
  | .sbbRm16Imm16 rm imm => 0x81 :: (rmBytes Reg16.code 3 rm ++ wordBytes imm)
  | .andRm16Imm16 rm imm => 0x81 :: (rmBytes Reg16.code 4 rm ++ wordBytes imm)
  | .subRm16Imm16 rm imm => 0x81 :: (rmBytes Reg16.code 5 rm ++ wordBytes imm)
  | .xorRm16Imm16 rm imm => 0x81 :: (rmBytes Reg16.code 6 rm ++ wordBytes imm)
  | .cmpRm16Imm16 rm imm => 0x81 :: (rmBytes Reg16.code 7 rm ++ wordBytes imm)
  | .tierXGroup1Alias82 => [0x82]
  | .addRm16Simm8 rm imm => 0x83 :: (rmBytes Reg16.code 0 rm ++ [imm])
  | .orRm16Simm8 rm imm => 0x83 :: (rmBytes Reg16.code 1 rm ++ [imm])
  | .adcRm16Simm8 rm imm => 0x83 :: (rmBytes Reg16.code 2 rm ++ [imm])
  | .sbbRm16Simm8 rm imm => 0x83 :: (rmBytes Reg16.code 3 rm ++ [imm])
  | .andRm16Simm8 rm imm => 0x83 :: (rmBytes Reg16.code 4 rm ++ [imm])
  | .subRm16Simm8 rm imm => 0x83 :: (rmBytes Reg16.code 5 rm ++ [imm])
  | .xorRm16Simm8 rm imm => 0x83 :: (rmBytes Reg16.code 6 rm ++ [imm])
  | .cmpRm16Simm8 rm imm => 0x83 :: (rmBytes Reg16.code 7 rm ++ [imm])
  | .tierXTestRm8R8 => [0x84]
  | .tierXTestRm16R16 => [0x85]
  | .tierXXchgRm8R8 => [0x86]
  | .tierXXchgRm16R16 => [0x87]
  | .movRm8R8 rm r => 0x88 :: rmBytes Reg8.code r.code rm
  | .movRm16R16 rm r => 0x89 :: rmBytes Reg16.code r.code rm
  | .movR8Rm8 rm r => 0x8A :: rmBytes Reg8.code r.code rm
  | .movR16Rm16 rm r => 0x8B :: rmBytes Reg16.code r.code rm
  | .movRm16Es rm => 0x8C :: rmBytes Reg16.code 0 rm
  | .movRm16Cs rm => 0x8C :: rmBytes Reg16.code 1 rm
  | .movRm16Ss rm => 0x8C :: rmBytes Reg16.code 2 rm
  | .movRm16Ds rm => 0x8C :: rmBytes Reg16.code 3 rm
  | .tierXMovRm16Sreg4 => [0x8C, modRMByte 0 4 0]
  | .tierXMovRm16Sreg5 => [0x8C, modRMByte 0 5 0]
  | .tierXMovRm16Sreg6 => [0x8C, modRMByte 0 6 0]
  | .tierXMovRm16Sreg7 => [0x8C, modRMByte 0 7 0]
  | .tierXLea => [0x8D]
  | .movEsRm16 rm => 0x8E :: rmBytes Reg16.code 0 rm
  | .tierXMovCsRm16 => [0x8E, modRMByte 0 1 0]
  | .movSsRm16 rm => 0x8E :: rmBytes Reg16.code 2 rm
  | .movDsRm16 rm => 0x8E :: rmBytes Reg16.code 3 rm
  | .tierXMovSreg4Rm16 => [0x8E, modRMByte 0 4 0]
  | .tierXMovSreg5Rm16 => [0x8E, modRMByte 0 5 0]
  | .tierXMovSreg6Rm16 => [0x8E, modRMByte 0 6 0]
  | .tierXMovSreg7Rm16 => [0x8E, modRMByte 0 7 0]
  | .popRm16 rm => 0x8F :: rmBytes Reg16.code 0 rm
  | .tierXUndefined8F1 => [0x8F, modRMByte 0 1 0]
  | .tierXUndefined8F2 => [0x8F, modRMByte 0 2 0]
  | .tierXUndefined8F3 => [0x8F, modRMByte 0 3 0]
  | .tierXUndefined8F4 => [0x8F, modRMByte 0 4 0]
  | .tierXUndefined8F5 => [0x8F, modRMByte 0 5 0]
  | .tierXUndefined8F6 => [0x8F, modRMByte 0 6 0]
  | .tierXUndefined8F7 => [0x8F, modRMByte 0 7 0]
  | .tierXNop => [0x90]
  | .tierXXchgAxCx => [0x91]
  | .tierXXchgAxDx => [0x92]
  | .tierXXchgAxBx => [0x93]
  | .tierXXchgAxSp => [0x94]
  | .tierXXchgAxBp => [0x95]
  | .tierXXchgAxSi => [0x96]
  | .tierXXchgAxDi => [0x97]
  | .tierXCbw => [0x98]
  | .tierXCwd => [0x99]
  | .callFar off seg => 0x9A :: (wordBytes off ++ wordBytes seg)
  | .tierXWait => [0x9B]
  | .tierXPushf => [0x9C]
  | .tierXPopf => [0x9D]
  | .tierXSahf => [0x9E]
  | .tierXLahf => [0x9F]
  | .movAlMoffs off => 0xA0 :: wordBytes off
  | .movAxMoffs off => 0xA1 :: wordBytes off
  | .movMoffsAl off => 0xA2 :: wordBytes off
  | .movMoffsAx off => 0xA3 :: wordBytes off
  | .movsb => [0xA4]
  | .movsw => [0xA5]
  | .cmpsb => [0xA6]
  | .cmpsw => [0xA7]
  | .tierXTestAlImm8 => [0xA8]
  | .tierXTestAxImm16 => [0xA9]
  | .stosb => [0xAA]
  | .stosw => [0xAB]
  | .lodsb => [0xAC]
  | .lodsw => [0xAD]
  | .scasb => [0xAE]
  | .scasw => [0xAF]
  | .movAlImm8 imm => [0xB0, imm]
  | .movClImm8 imm => [0xB1, imm]
  | .movDlImm8 imm => [0xB2, imm]
  | .movBlImm8 imm => [0xB3, imm]
  | .movAhImm8 imm => [0xB4, imm]
  | .movChImm8 imm => [0xB5, imm]
  | .movDhImm8 imm => [0xB6, imm]
  | .movBhImm8 imm => [0xB7, imm]
  | .movAxImm16 imm => 0xB8 :: wordBytes imm
  | .movCxImm16 imm => 0xB9 :: wordBytes imm
  | .movDxImm16 imm => 0xBA :: wordBytes imm
  | .movBxImm16 imm => 0xBB :: wordBytes imm
  | .movSpImm16 imm => 0xBC :: wordBytes imm
  | .movBpImm16 imm => 0xBD :: wordBytes imm
  | .movSiImm16 imm => 0xBE :: wordBytes imm
  | .movDiImm16 imm => 0xBF :: wordBytes imm
  | .rolRm8Cnt rm cnt => 0xC0 :: (rmBytes Reg8.code 0 rm ++ [cnt])
  | .rorRm8Cnt rm cnt => 0xC0 :: (rmBytes Reg8.code 1 rm ++ [cnt])
  | .rclRm8Cnt rm cnt => 0xC0 :: (rmBytes Reg8.code 2 rm ++ [cnt])
  | .rcrRm8Cnt rm cnt => 0xC0 :: (rmBytes Reg8.code 3 rm ++ [cnt])
  | .shlRm8Cnt rm cnt => 0xC0 :: (rmBytes Reg8.code 4 rm ++ [cnt])
  | .shrRm8Cnt rm cnt => 0xC0 :: (rmBytes Reg8.code 5 rm ++ [cnt])
  | .salRm8Cnt rm cnt => 0xC0 :: (rmBytes Reg8.code 6 rm ++ [cnt])
  | .sarRm8Cnt rm cnt => 0xC0 :: (rmBytes Reg8.code 7 rm ++ [cnt])
  | .rolRm16Cnt rm cnt => 0xC1 :: (rmBytes Reg16.code 0 rm ++ [cnt])
  | .rorRm16Cnt rm cnt => 0xC1 :: (rmBytes Reg16.code 1 rm ++ [cnt])
  | .rclRm16Cnt rm cnt => 0xC1 :: (rmBytes Reg16.code 2 rm ++ [cnt])
  | .rcrRm16Cnt rm cnt => 0xC1 :: (rmBytes Reg16.code 3 rm ++ [cnt])
  | .shlRm16Cnt rm cnt => 0xC1 :: (rmBytes Reg16.code 4 rm ++ [cnt])
  | .shrRm16Cnt rm cnt => 0xC1 :: (rmBytes Reg16.code 5 rm ++ [cnt])
  | .salRm16Cnt rm cnt => 0xC1 :: (rmBytes Reg16.code 6 rm ++ [cnt])
  | .sarRm16Cnt rm cnt => 0xC1 :: (rmBytes Reg16.code 7 rm ++ [cnt])
  | .retPop count => 0xC2 :: wordBytes count
  | .ret => [0xC3]
  | .tierXLes => [0xC4]
  | .tierXLds => [0xC5]
  | .movRm8Imm8 rm imm => 0xC6 :: (rmBytes Reg8.code 0 rm ++ [imm])
  | .tierXUndefinedC61 => [0xC6, modRMByte 0 1 0]
  | .tierXUndefinedC62 => [0xC6, modRMByte 0 2 0]
  | .tierXUndefinedC63 => [0xC6, modRMByte 0 3 0]
  | .tierXUndefinedC64 => [0xC6, modRMByte 0 4 0]
  | .tierXUndefinedC65 => [0xC6, modRMByte 0 5 0]
  | .tierXUndefinedC66 => [0xC6, modRMByte 0 6 0]
  | .tierXUndefinedC67 => [0xC6, modRMByte 0 7 0]
  | .movRm16Imm16 rm imm => 0xC7 :: (rmBytes Reg16.code 0 rm ++ wordBytes imm)
  | .tierXUndefinedC71 => [0xC7, modRMByte 0 1 0]
  | .tierXUndefinedC72 => [0xC7, modRMByte 0 2 0]
  | .tierXUndefinedC73 => [0xC7, modRMByte 0 3 0]
  | .tierXUndefinedC74 => [0xC7, modRMByte 0 4 0]
  | .tierXUndefinedC75 => [0xC7, modRMByte 0 5 0]
  | .tierXUndefinedC76 => [0xC7, modRMByte 0 6 0]
  | .tierXUndefinedC77 => [0xC7, modRMByte 0 7 0]
  | .tierXEnter => [0xC8]
  | .tierXLeave => [0xC9]
  | .retfPop count => 0xCA :: wordBytes count
  | .retf => [0xCB]
  | .tierXInt3 => [0xCC]
  | .int vec => [0xCD, vec]
  | .tierXInto => [0xCE]
  | .tierXIret => [0xCF]
  | .rolRm8One rm => 0xD0 :: rmBytes Reg8.code 0 rm
  | .rorRm8One rm => 0xD0 :: rmBytes Reg8.code 1 rm
  | .rclRm8One rm => 0xD0 :: rmBytes Reg8.code 2 rm
  | .rcrRm8One rm => 0xD0 :: rmBytes Reg8.code 3 rm
  | .shlRm8One rm => 0xD0 :: rmBytes Reg8.code 4 rm
  | .shrRm8One rm => 0xD0 :: rmBytes Reg8.code 5 rm
  | .salRm8One rm => 0xD0 :: rmBytes Reg8.code 6 rm
  | .sarRm8One rm => 0xD0 :: rmBytes Reg8.code 7 rm
  | .rolRm16One rm => 0xD1 :: rmBytes Reg16.code 0 rm
  | .rorRm16One rm => 0xD1 :: rmBytes Reg16.code 1 rm
  | .rclRm16One rm => 0xD1 :: rmBytes Reg16.code 2 rm
  | .rcrRm16One rm => 0xD1 :: rmBytes Reg16.code 3 rm
  | .shlRm16One rm => 0xD1 :: rmBytes Reg16.code 4 rm
  | .shrRm16One rm => 0xD1 :: rmBytes Reg16.code 5 rm
  | .salRm16One rm => 0xD1 :: rmBytes Reg16.code 6 rm
  | .sarRm16One rm => 0xD1 :: rmBytes Reg16.code 7 rm
  | .rolRm8Cl rm => 0xD2 :: rmBytes Reg8.code 0 rm
  | .rorRm8Cl rm => 0xD2 :: rmBytes Reg8.code 1 rm
  | .rclRm8Cl rm => 0xD2 :: rmBytes Reg8.code 2 rm
  | .rcrRm8Cl rm => 0xD2 :: rmBytes Reg8.code 3 rm
  | .shlRm8Cl rm => 0xD2 :: rmBytes Reg8.code 4 rm
  | .shrRm8Cl rm => 0xD2 :: rmBytes Reg8.code 5 rm
  | .salRm8Cl rm => 0xD2 :: rmBytes Reg8.code 6 rm
  | .sarRm8Cl rm => 0xD2 :: rmBytes Reg8.code 7 rm
  | .rolRm16Cl rm => 0xD3 :: rmBytes Reg16.code 0 rm
  | .rorRm16Cl rm => 0xD3 :: rmBytes Reg16.code 1 rm
  | .rclRm16Cl rm => 0xD3 :: rmBytes Reg16.code 2 rm
  | .rcrRm16Cl rm => 0xD3 :: rmBytes Reg16.code 3 rm
  | .shlRm16Cl rm => 0xD3 :: rmBytes Reg16.code 4 rm
  | .shrRm16Cl rm => 0xD3 :: rmBytes Reg16.code 5 rm
  | .salRm16Cl rm => 0xD3 :: rmBytes Reg16.code 6 rm
  | .sarRm16Cl rm => 0xD3 :: rmBytes Reg16.code 7 rm
  | .aam base => [0xD4, base]
  | .aad base => [0xD5, base]
  | .tierXSalc => [0xD6]
  | .tierXXlat => [0xD7]
  | .tierXEsc0 => [0xD8]
  | .tierXEsc1 => [0xD9]
  | .tierXEsc2 => [0xDA]
  | .tierXEsc3 => [0xDB]
  | .tierXEsc4 => [0xDC]
  | .tierXEsc5 => [0xDD]
  | .tierXEsc6 => [0xDE]
  | .tierXEsc7 => [0xDF]
  | .loopne rel => [0xE0, rel]
  | .loope rel => [0xE1, rel]
  | .loop rel => [0xE2, rel]
  | .jcxz rel => [0xE3, rel]
  | .tierXInAlImm8 => [0xE4]
  | .tierXInAxImm8 => [0xE5]
  | .tierXOutImm8Al => [0xE6]
  | .tierXOutImm8Ax => [0xE7]
  | .callNear rel => 0xE8 :: wordBytes rel
  | .jmpNear rel => 0xE9 :: wordBytes rel
  | .jmpFar off seg => 0xEA :: (wordBytes off ++ wordBytes seg)
  | .jmpShort rel => [0xEB, rel]
  | .tierXInAlDx => [0xEC]
  | .tierXInAxDx => [0xED]
  | .tierXOutDxAl => [0xEE]
  | .tierXOutDxAx => [0xEF]
  | .tierXLockPrefix => [0xF0]
  | .tierXUndefinedF1 => [0xF1]
  | .tierXRepnePrefix => [0xF2]
  | .tierXRepRepePrefix => [0xF3]
  | .hlt => [0xF4]
  | .tierXCmc => [0xF5]
  | .tierXTestRm8 => [0xF6, modRMByte 0 0 0]
  | .tierXTestAliasRm8 => [0xF6, modRMByte 0 1 0]
  | .tierXNotRm8 => [0xF6, modRMByte 0 2 0]
  | .tierXNegRm8 => [0xF6, modRMByte 0 3 0]
  | .tierXMulRm8 => [0xF6, modRMByte 0 4 0]
  | .tierXImulRm8 => [0xF6, modRMByte 0 5 0]
  | .tierXDivRm8 => [0xF6, modRMByte 0 6 0]
  | .tierXIdivRm8 => [0xF6, modRMByte 0 7 0]
  | .tierXTestRm16 => [0xF7, modRMByte 0 0 0]
  | .tierXTestAliasRm16 => [0xF7, modRMByte 0 1 0]
  | .tierXNotRm16 => [0xF7, modRMByte 0 2 0]
  | .tierXNegRm16 => [0xF7, modRMByte 0 3 0]
  | .tierXMulRm16 => [0xF7, modRMByte 0 4 0]
  | .tierXImulRm16 => [0xF7, modRMByte 0 5 0]
  | .tierXDivRm16 => [0xF7, modRMByte 0 6 0]
  | .tierXIdivRm16 => [0xF7, modRMByte 0 7 0]
  | .tierXClc => [0xF8]
  | .tierXStc => [0xF9]
  | .tierXCli => [0xFA]
  | .tierXSti => [0xFB]
  | .tierXCld => [0xFC]
  | .tierXStd => [0xFD]
  | .incRm8 rm => 0xFE :: rmBytes Reg8.code 0 rm
  | .decRm8 rm => 0xFE :: rmBytes Reg8.code 1 rm
  | .tierXUndefinedFE2 => [0xFE, modRMByte 0 2 0]
  | .tierXUndefinedFE3 => [0xFE, modRMByte 0 3 0]
  | .tierXUndefinedFE4 => [0xFE, modRMByte 0 4 0]
  | .tierXUndefinedFE5 => [0xFE, modRMByte 0 5 0]
  | .tierXUndefinedFE6 => [0xFE, modRMByte 0 6 0]
  | .tierXUndefinedFE7 => [0xFE, modRMByte 0 7 0]
  | .incRm16 rm => 0xFF :: rmBytes Reg16.code 0 rm
  | .decRm16 rm => 0xFF :: rmBytes Reg16.code 1 rm
  | .tierXCallRm16 => [0xFF, modRMByte 0 2 0]
  | .tierXCallM16m16 => [0xFF, modRMByte 0 3 0]
  | .tierXJmpRm16 => [0xFF, modRMByte 0 4 0]
  | .tierXJmpM16m16 => [0xFF, modRMByte 0 5 0]
  | .pushRm16 rm => 0xFF :: rmBytes Reg16.code 6 rm
  | .tierXUndefinedFF7 => [0xFF, modRMByte 0 7 0]

end Sys2Proof
end

