-- ==== Sys2Proof/Config.lean ====
section
/-! DEFINITION. What an implementation of DOSLite CORE fixes (spec/00_scope.md R6), as one record of
plain data, and the free values the spec leaves open (`draw`, R9). The record is a field of State, so a
statement about every state holds for every value of every parameter. -/

namespace Sys2Proof

/-- R6, R61 `ADDR_MODEL`: how a segment and an offset form a physical address. -/
inductive AddrModel where
  /-- segment x 65536 + offset (the default of R61). -/
  | banked64k
  /-- (segment x 16 + offset) mod 2^20. -/
  | real8086
  deriving DecidableEq, Repr

/-- R6: the parameters of an implementation, fixed for a run (R40). -/
structure Config where
  /-- `ADDR_MODEL` (R61, D5). -/
  addrModel : AddrModel
  /-- `SP_INIT`: SP after LOAD (R403, D11). -/
  spInit : Word
  /-- `FLAGS_INIT`: FLAGS after LOAD (R403, D12). -/
  flagsInit : Word
  /-- `STR_MAX`: bytes examined by string output before it gives up (R365, D29). -/
  strMax : Nat
  /-- `CONSOLE_FILTER`: bytes, other than the printable ones, whose output differs from the default
  table of R366, each with what is output for it (D30). -/
  filterChanges : List (Byte × List Byte)
  /-- `LOOP_WRITES_FLAGS`: whether the CX decrement of the loop family writes flags (R324, D20). -/
  loopWritesFlags : Bool
  /-- `AAA_ADJUSTS_AH`: whether AAA increments AH (R203, D21). -/
  aaaAdjustsAh : Bool
  /-- `PUSH_SP_VALUE`: true when `PUSH SP` stores the value before the decrement (R272, D25). -/
  pushSpOld : Bool
  deriving DecidableEq, Repr

/-- R9 `draw(N)`: the `n`-th free value of a run, of which the low N bits are used. It has no body:
nothing constrains it. -/
opaque Config.freeWord : Nat → Word

end Sys2Proof
end

