-- ==== Sys2Proof/Machine/Params.lean ====
section
/-! DEFINITION. The default values of the parameters (spec/00_scope.md R6) and the constants the spec
fixes. -/

namespace Sys2Proof.Machine

/-- R6 `MEM_SIZE`: 2^20 bytes. -/
def memSize : Nat := 1048576

/-- R400, D10: what a byte of memory that nothing has written reads as (all of MEM is 0 after
construction). DESIGN CHOICE of D10 (notes/assumptions/14.md). -/
def unlistedByte : Byte := 0

/-- R6 `LOAD_OFFSET`. -/
def loadOffset : Word := 0x0100

/-- R6 `IMAGE_MAX`. -/
def imageMax : Nat := 65536

/-- R6 `INTDELAY_SET`. -/
def intDelaySet : Nat := 2

/-- R6 `COUNT_MASK`. -/
def countMask : Byte := 0x1F

/-- R6 `OF_MULTI`. -/
def ofMulti : Bool := false

/-- R6 `DOS_VECTOR`. -/
def dosVector : Byte := 0x21

/-- R6 `FN_EXIT`. -/
def fnExit : Byte := 0x4C

/-- R6 `FN_STRING`. -/
def fnString : Byte := 0x09

/-- R6 `FN_CHAR`. -/
def fnChar : Byte := 0x02

/-- R365: the terminator of a string, `$`. -/
def stringEnd : Byte := 0x24

/-- R6 `AAM_DEFAULT_BASE`. -/
def usualBase : Byte := 10

/-- The defaults of R6. `STR_MAX` has none in the spec: DESIGN CHOICE, unsafe
(notes/assumptions/3.md). -/
def defaultConfig : Config where
  addrModel := .banked64k
  spInit := 0xFFFE
  flagsInit := 0x0202
  strMax := 65536
  filterChanges := []
  loopWritesFlags := false
  aaaAdjustsAh := true
  pushSpOld := true

end Sys2Proof.Machine
end

