-- ==== Sys2Proof/Machine/State.lean ====
section
/-! DEFINITION. The state of DOSLite CORE as plain data (spec/10_state.md R20), the reasons a step can stop,
and the state a program starts from (R41, the column "after LOAD"). -/

namespace Sys2Proof.Machine

/-- R9: conditions whose behaviour the spec leaves undefined, and the end of a run. -/
inductive Fault where
  /-- R62: an access outside the 1 MiB store. Raised by every read, write and fetch. Safe: the spec
  says no claim holds of the run afterwards. -/
  | memBounds
  /-- R66: a word access at offset 0xFFFF. Raised by word reads and writes of data and stack, never by
  a fetch. Safe, for the same reason. -/
  | segmentWrap
  /-- R205: AAM with base 0. Raised by AAM only. Safe, for the same reason. -/
  | divideByZero
  /-- R35, R412: no step is enabled once the run has ended. Raised by `step` only. Safe: the machine
  does nothing either (notes/assumptions/11.md). -/
  | notRunning
  deriving DecidableEq, Repr

/-- Why an instruction has no meaning. -/
inductive Refusal where
  /-- An instruction without a meaning yet. Raised by no arm: every instruction has one. Safe. -/
  | notModelled (mnemonic : String)
  /-- The bytes fetched end before the instruction does. Raised by `step` in form only: six bytes
  always hold an instruction (R93). Safe. -/
  | truncated
  deriving DecidableEq, Repr

/-- R35: the run status. -/
inductive Status where
  | running
  /-- The termination signal with its exit code (R363, R341). -/
  | terminated (code : Byte)
  /-- Stopped at an unrecognized opcode (R350). -/
  | stopped (op : Byte)
  deriving DecidableEq, Repr

/-- R38: the events of the diagnostic stream. -/
inductive DiagEvent where
  | unsupportedOpcode (op : Byte)
  | unsupportedInterrupt (n : Byte)
  | unsupportedFunction (ah : Byte)
  | unusualBase (n : Byte)
  | stringTooLong
  deriving DecidableEq, Repr

/-- R39, R60: the byte store, as its cells in canonical form (`Memory.wf`). -/
abbrev Memory := List Host.Cell

/-- R20: the state of the machine. -/
structure State where
  /-- R21: AX, of which AH and AL are halves. -/
  ax : Word
  /-- R21. -/
  bx : Word
  /-- R21. -/
  cx : Word
  /-- R21. -/
  dx : Word
  /-- R22: the stack pointer. -/
  sp : Word
  /-- R22. -/
  bp : Word
  /-- R22: the source index. -/
  si : Word
  /-- R22: the destination index. -/
  di : Word
  /-- R26: the segment of instruction fetch. -/
  cs : Word
  /-- R26: the default data segment. -/
  ds : Word
  /-- R26: the stack segment. -/
  ss : Word
  /-- R26: the destination segment of the string primitives. -/
  es : Word
  /-- R28: the instruction pointer; the program counter is CS:IP. -/
  ip : Word
  /-- R30, R31: the flags word, reserved bits included. -/
  flags : Word
  /-- R34: the interrupt-delay counter INTDELAY. -/
  intDelay : Nat
  /-- R35: STATUS. EXIT (R37) is read from it. -/
  status : Status
  /-- R39: MEM. -/
  mem : Memory
  /-- R36: CONOUT, oldest byte first. -/
  conout : List Byte
  /-- R38: DIAG, oldest event first. -/
  diag : List DiagEvent
  /-- The model's own: how many free values the run has drawn (R9 `draw`). DESIGN CHOICE
  (notes/assumptions/6.md). -/
  draws : Nat
  /-- R6, R40: the parameters, fixed for a run. -/
  cfg : Config
  deriving DecidableEq, Repr

/-- R37: EXIT is valid exactly when the run has terminated, and is then its code. -/
def State.exitCode (s : State) : Option Byte :=
  match s.status with
  | .terminated code => some code
  | .running | .stopped _ => none

/-- R41, R403: the state a program starts from, which is the state after LOAD (of an image that
writes nothing) on a constructed machine with the default parameters (notes/assumptions/1.md). -/
def State.reset : State where
  ax := 0
  bx := 0
  cx := 0
  dx := 0
  sp := defaultConfig.spInit
  bp := 0
  si := 0
  di := 0
  cs := 0
  ds := 0
  ss := 0
  es := 0
  ip := loadOffset
  flags := defaultConfig.flagsInit
  intDelay := 0
  status := .running
  mem := []
  conout := []
  diag := []
  draws := 0
  cfg := defaultConfig

end Sys2Proof.Machine
end

