-- ==== Sys2Proof/Machine/Flags.lean ====
section
/-! DEFINITION. The flags word (spec/10_state.md R30) and every flag computation: the ALU/Flags Engine
(spec/41_alu.md R160 to R165), the Shift/Rotate Engine (spec/43_shift_rotate.md R221 to R237), the
corrections of the BCD instructions (spec/42_bcd.md) and the branch predicates (spec/46_control.md).
All are functions of values and of the flags word; none reads the state. -/

namespace Sys2Proof.Machine

/-! ### The flags word -/

/-- R30: the named flags (`if_` and `of_` are IF and OF). -/
inductive Flag where
  | cf | pf | af | zf | sf | if_ | df | of_
  deriving DecidableEq, Repr

/-- R30: the bit of FLAGS that holds a flag. -/
def Flag.bit : Flag → Nat
  | .cf => 0 | .pf => 2 | .af => 4 | .zf => 6 | .sf => 7 | .if_ => 9 | .df => 10 | .of_ => 11

/-- R8: one flag bit of FLAGS. -/
def getFlag (fl : Word) (f : Flag) : Bool := fl.getLsbD f.bit

/-- R8: `f <- b`, every other bit kept. -/
def putFlag (fl : Word) (f : Flag) (b : Bool) : Word :=
  if b then fl ||| BitVec.twoPow 16 f.bit else fl &&& ~~~(BitVec.twoPow 16 f.bit)

/-- Writes CF, AF and OF. -/
def putCarries (fl : Word) (c a o : Bool) : Word :=
  putFlag (putFlag (putFlag fl .cf c) .af a) .of_ o

/-! ### The ALU/Flags Engine -/

/-- R163: whether the low byte has an even number of set bits. -/
def evenParity {w : Nat} (r : BitVec w) : Bool :=
  ((List.range 8).countP fun i => r.getLsbD i) % 2 == 0

/-- R163 `SetSZP`. -/
def setSZP {w : Nat} (r : BitVec w) (fl : Word) : Word :=
  putFlag (putFlag (putFlag fl .zf (r == 0)) .sf r.msb) .pf (evenParity r)

/-- R161 `AddFlags`: the sum and the flags word after it. -/
def addFlags {w : Nat} (a b : BitVec w) (cin : Bool) (fl : Word) : BitVec w × Word :=
  let wide := a.toNat + b.toNat + cin.toNat
  let r := BitVec.ofNat w wide
  let af := (a ^^^ b ^^^ r).getLsbD 4
  let ov := (a.msb == b.msb) && (r.msb != a.msb)
  (r, setSZP r (putCarries fl (wide.testBit w) af ov))

/-- R162 `SubFlags`: the difference and the flags word after it. The wide difference is taken in
w + 1 bits; its bit w is the borrow. -/
def subFlags {w : Nat} (a b : BitVec w) (bin : Bool) (fl : Word) : BitVec w × Word :=
  let wide : BitVec (w + 1) := a.setWidth (w + 1) - b.setWidth (w + 1) - BitVec.ofNat (w + 1) bin.toNat
  let r := wide.setWidth w
  let af := (a ^^^ b ^^^ r).getLsbD 4
  let ov := (a.msb != b.msb) && (r.msb != a.msb)
  (r, setSZP r (putCarries fl wide.msb af ov))

/-- R164 `LogicFlags`. -/
def logicFlags {w : Nat} (r : BitVec w) (fl : Word) : Word :=
  setSZP r (putCarries fl false false false)

end Sys2Proof.Machine

namespace Sys2Proof

open Sys2Proof.Machine

/-- R170 to R177: the result of a two-operand instruction and the flags word after it. -/
def AluOp.compute {w : Nat} (op : AluOp) (left right : BitVec w) (fl : Word) : BitVec w × Word :=
  match op with
  | .add => addFlags left right false fl
  | .or => (left ||| right, logicFlags (left ||| right) fl)
  | .adc => addFlags left right (getFlag fl .cf) fl
  | .sbb => subFlags left right (getFlag fl .cf) fl
  | .and => (left &&& right, logicFlags (left &&& right) fl)
  | .sub => subFlags left right false fl
  | .xor => (left ^^^ right, logicFlags (left ^^^ right) fl)
  | .cmp => subFlags left right false fl

/-- R166, R177: every two-operand instruction but CMP writes its result. -/
def AluOp.writes : AluOp → Bool
  | .cmp => false
  | .add | .or | .adc | .sbb | .and | .sub | .xor => true

/-- R178, R179: INC and DEC, which keep CF. -/
def IncDec.compute {w : Nat} (op : IncDec) (v : BitVec w) (fl : Word) : BitVec w × Word :=
  let res := match op with
    | .inc => addFlags v 1 false fl
    | .dec => subFlags v 1 false fl
  (res.1, putFlag res.2 .cf (getFlag fl .cf))

end Sys2Proof

namespace Sys2Proof.Machine

/-! ### The Shift/Rotate Engine -/

/-- A bit as a value of width `w`. -/
def bitValue (w : Nat) (b : Bool) : BitVec w := BitVec.ofNat w b.toNat

end Sys2Proof.Machine

namespace Sys2Proof

open Sys2Proof.Machine

/-- R230 to R237: one step of a shift or rotate on the operand and CF. -/
def ShiftOp.step {w : Nat} (op : ShiftOp) (v : BitVec w) (c : Bool) : BitVec w × Bool :=
  match op with
  | .rol => ((v <<< 1) ||| bitValue w v.msb, v.msb)
  | .ror => ((v >>> 1) ||| (bitValue w (v.getLsbD 0) <<< (w - 1)), v.getLsbD 0)
  | .rcl => ((v <<< 1) ||| bitValue w c, v.msb)
  | .rcr => ((v >>> 1) ||| (bitValue w c <<< (w - 1)), v.getLsbD 0)
  | .shl => (v <<< 1, v.msb)
  | .shr => (v >>> 1, v.getLsbD 0)
  | .sal => (v <<< 1, v.msb)
  | .sar => ((v >>> 1) ||| (v &&& (bitValue w true <<< (w - 1))), v.getLsbD 0)

/-- R221, R226: the step applied `n` times. -/
def ShiftOp.steps {w : Nat} (op : ShiftOp) : Nat → BitVec w → Bool → BitVec w × Bool
  | 0, v, c => (v, c)
  | n + 1, v, c => op.steps n (op.step v c).1 (op.step v c).2

end Sys2Proof

namespace Sys2Proof.Machine

/-- R221: the count masked to 5 bits. -/
def maskedCount (count : Byte) : Nat := (count &&& countMask).toNat

end Sys2Proof.Machine

namespace Sys2Proof

open Sys2Proof.Machine

/-- R224: OF for the result `v` and the new carry `c` of a count that is exactly 1. -/
def ShiftOp.overflowOne {w : Nat} (op : ShiftOp) (v : BitVec w) (c : Bool) : Bool :=
  match op with
  | .rol | .rcl | .shl | .sal => c ^^ v.msb
  | .ror | .rcr | .shr => v.msb ^^ v.getLsbD (w - 2)
  | .sar => false

/-- R225: the shifts, which also write ZF, SF, PF and clear AF. -/
def ShiftOp.isShift : ShiftOp → Bool
  | .shl | .shr | .sal | .sar => true
  | .rol | .ror | .rcl | .rcr => false

/-- R226: the result of a shift or rotate whose masked count is not 0, and the flags word after it.
`count` is the pre-mask count (R222). -/
def ShiftOp.compute {w : Nat} (op : ShiftOp) (v : BitVec w) (count : Byte) (fl : Word) :
    BitVec w × Word :=
  let res := op.steps (maskedCount count) v (getFlag fl .cf)
  let ov := if count = 1 then op.overflowOne res.1 res.2 else ofMulti
  let base := if op.isShift then logicFlags res.1 fl else fl
  (res.1, putFlag (putFlag base .cf res.2) .of_ ov)

end Sys2Proof

namespace Sys2Proof.Machine

/-! ### BCD corrections -/

/-- What a decimal or ASCII correction leaves: AL, CF and AF. -/
structure Correction where
  al : Byte
  cf : Bool
  af : Bool
  deriving DecidableEq, Repr

/-- The low nibble is no decimal digit, or a nibble carry is pending (R201 to R204). -/
def nibbleOver (al : Byte) (af : Bool) : Bool := decide (9 < (al &&& 0x0F).toNat) || af

/-- R201, R202: the byte is no packed decimal, or a carry is pending. -/
def byteOver (al : Byte) (cf : Bool) : Bool := decide (0x99 < al.toNat) || cf

/-- R201. -/
def daaCorrection (al : Byte) (cf af : Bool) : Correction :=
  let low := nibbleOver al af
  let high := byteOver al cf
  let al1 := if low then al + 6 else al
  { al := if high then al1 + 0x60 else al1, cf := high, af := low }

/-- R202: a failed second test keeps the CF of the first part. -/
def dasCorrection (al : Byte) (cf af : Bool) : Correction :=
  let low := nibbleOver al af
  let high := byteOver al cf
  let al1 := if low then al - 6 else al
  let cf1 := low && (cf || decide (al.toNat < 6))
  { al := if high then al1 - 0x60 else al1, cf := high || cf1, af := low }

/-- R203, R204: the byte-wise ASCII correction of AL by +6 or -6. -/
def asciiCorrection (al : Byte) (af : Bool) (six : Byte) : Correction :=
  let low := nibbleOver al af
  let al1 := if low then al + six else al
  { al := al1 &&& 0x0F, cf := low, af := low }

end Sys2Proof.Machine

namespace Sys2Proof

open Sys2Proof.Machine

/-! ### Predicates -/

/-- R305 to R320: the branch predicates. -/
def Cond.holds (c : Cond) (fl : Word) : Bool :=
  let f := getFlag fl
  match c with
  | .o => f .of_
  | .no => !f .of_
  | .b => f .cf
  | .ae => !f .cf
  | .e => f .zf
  | .ne => !f .zf
  | .be => f .cf || f .zf
  | .a => !f .cf && !f .zf
  | .s => f .sf
  | .ns => !f .sf
  | .p => f .pf
  | .np => !f .pf
  | .l => f .sf != f .of_
  | .ge => f .sf == f .of_
  | .le => f .zf || (f .sf != f .of_)
  | .g => !f .zf && (f .sf == f .of_)

/-- R325 to R327: what the loop family tests beside CX. -/
def LoopKind.holds (k : LoopKind) (fl : Word) : Bool :=
  match k with
  | .always => true
  | .whileZero => getFlag fl .zf
  | .whileNotZero => !getFlag fl .zf

end Sys2Proof
end

