-- ==== Sys2Proof/Machine/Memory.lean ====
section
/-! DEFINITION. The byte store (spec/20_memory.md R60) as a list of cells in one canonical form, and the
address formation of R61. -/

namespace Sys2Proof.Machine

/-- The byte at a physical address. -/
def Memory.read : Memory → Nat → Byte
  | [], _ => unlistedByte
  | (a, v) :: m, k => if k = a then v else Memory.read m k

/-- A cell put in front of `m`, or nothing where the byte is what an unlisted address reads as. -/
def Memory.putFront (k : Nat) (v : Byte) (m : Memory) : Memory :=
  if v = unlistedByte then m else (k, v) :: m

/-- R65: the store with one byte replaced; the canonical form is kept. -/
def Memory.write : Memory → Nat → Byte → Memory
  | [], k, v => Memory.putFront k v []
  | (a, w) :: m, k, v =>
    if k < a then Memory.putFront k v ((a, w) :: m)
    else if k = a then Memory.putFront k v m
    else (a, w) :: Memory.write m k v

/-- The cells from address `lo` on: addresses strictly rising and inside the store, no cell equal to
what an unlisted address reads as. -/
def Memory.wfFrom : Nat → Memory → Bool
  | _, [] => true
  | lo, (a, v) :: m => decide (lo ≤ a) && decide (a < memSize) && v != unlistedByte && Memory.wfFrom (a + 1) m

/-- The canonical form: equal stores are equal lists. -/
def Memory.wf (m : Memory) : Bool := Memory.wfFrom 0 m

/-- R61: the physical address of a segment:offset pair. -/
def phys (model : AddrModel) (seg off : Word) : Nat :=
  match model with
  | .banked64k => seg.toNat * 65536 + off.toNat
  | .real8086 => (seg.toNat * 16 + off.toNat) % memSize

/-- R61, in the address model of the machine. -/
def State.phys (s : State) (seg off : Word) : Nat := Sys2Proof.Machine.phys s.cfg.addrModel seg off

end Sys2Proof.Machine
end

