-- ==== Sys2Proof/Machine/Ops.lean ====
section
/-! DEFINITION. The shared operations: reading and writing registers (spec/10_state.md R21 to R27), flags and
memory (spec/20_memory.md R64 to R68), the stack primitives (spec/45_stack.md R270, R271), free values
(R9), and the events that end a run or are logged (spec/60_exceptions.md R360). The hardware has no trap
entry and no return from one (R372, R373): `raiseUnsupported` and `raiseTerminate` are all there is. -/

namespace Sys2Proof

/-- R21: the word register a byte register is half of. -/
def Reg8.parent : Reg8 → Reg16
  | .al | .ah => .ax
  | .cl | .ch => .cx
  | .dl | .dh => .dx
  | .bl | .bh => .bx

/-- R21: whether a byte register is the high half. -/
def Reg8.isHigh : Reg8 → Bool
  | .al | .cl | .dl | .bl => false
  | .ah | .ch | .dh | .bh => true

end Sys2Proof

namespace Sys2Proof.Machine

/-- The three outcomes of an instruction. -/
abbrev Result := Host.Outcome State Fault Refusal

/-- The outcome of an instruction that either completes or faults. -/
def finish : Except Fault State → Result
  | .ok s => .next s
  | .error f => .fault f

/-! ### Registers -/

/-- R24: a word register. -/
def State.reg16 (s : State) : Reg16 → Word
  | .ax => s.ax | .cx => s.cx | .dx => s.dx | .bx => s.bx
  | .sp => s.sp | .bp => s.bp | .si => s.si | .di => s.di

/-- R24: `r <- v` for a word register. -/
def State.setReg16 (s : State) (r : Reg16) (v : Word) : State :=
  match r with
  | .ax => { s with ax := v } | .cx => { s with cx := v }
  | .dx => { s with dx := v } | .bx => { s with bx := v }
  | .sp => { s with sp := v } | .bp => { s with bp := v }
  | .si => { s with si := v } | .di => { s with di := v }

/-- R21: `AL = AX[7:0]`, `AH = AX[15:8]`. -/
def State.reg8 (s : State) (r : Reg8) : Byte :=
  if r.isHigh then highByte (s.reg16 r.parent) else lowByte (s.reg16 r.parent)

/-- R21: a write to one half, which leaves the other. -/
def State.setReg8 (s : State) (r : Reg8) (v : Byte) : State :=
  if r.isHigh then s.setReg16 r.parent (joinBytes v (lowByte (s.reg16 r.parent)))
  else s.setReg16 r.parent (joinBytes (highByte (s.reg16 r.parent)) v)

/-- R26: a segment register. -/
def State.sreg (s : State) : SReg → Word
  | .es => s.es | .cs => s.cs | .ss => s.ss | .ds => s.ds

/-- R26, R146, R277: a write of a segment register by MOV or POP. Writing SS sets INTDELAY. -/
def State.setSreg (s : State) (r : SReg) (v : Word) : State :=
  match r with
  | .es => { s with es := v }
  | .cs => { s with cs := v }
  | .ss => { s with ss := v, intDelay := intDelaySet }
  | .ds => { s with ds := v }

/-- R30: a flag of the state. -/
def State.flag (s : State) (f : Flag) : Bool := getFlag s.flags f

/-- The state with a flags word. -/
def State.withFlags (s : State) (fl : Word) : State := { s with flags := fl }

/-- `IP <- v` (R28). -/
def State.withIp (s : State) (v : Word) : State := { s with ip := v }

/-- The state with a store. -/
def State.withMem (s : State) (m : Memory) : State := { s with mem := m }

/-- The state with a run status (R35). -/
def State.withStatus (s : State) (st : Status) : State := { s with status := st }

/-! ### Memory -/

/-- R64, n = 1. -/
def State.memRead8 (s : State) (seg off : Word) : Except Fault Byte :=
  if s.phys seg off < memSize then .ok (s.mem.read (s.phys seg off)) else .error .memBounds

/-- R64, R66, n = 2: little-endian (R63). The second byte is the one at the next offset (R67): at the next
physical address, which under REAL8086 is taken modulo 2^20 (R61), so that no address is outside the store
there (R62). R64 writes `phys(seg, off) + 1` for both models: DEDUCED (notes/assumptions/9.md). -/
def State.memRead16 (s : State) (seg off : Word) : Except Fault Word :=
  if off = 0xFFFF then .error .segmentWrap
  else if s.phys seg (off + 1) < memSize then
    .ok (joinBytes (s.mem.read (s.phys seg (off + 1))) (s.mem.read (s.phys seg off)))
  else .error .memBounds

/-- R65, n = 1. -/
def State.memWrite8 (s : State) (seg off : Word) (v : Byte) : Except Fault State :=
  if s.phys seg off < memSize then .ok (s.withMem (s.mem.write (s.phys seg off) v))
  else .error .memBounds

/-- R65, R66, n = 2: little-endian (R63), the second byte as for a read (notes/assumptions/9.md). -/
def State.memWrite16 (s : State) (seg off : Word) (v : Word) : Except Fault State :=
  if off = 0xFFFF then .error .segmentWrap
  else if s.phys seg (off + 1) < memSize then
    .ok (s.withMem
      ((s.mem.write (s.phys seg off) (lowByte v)).write (s.phys seg (off + 1)) (highByte v)))
  else .error .memBounds

/-- R68: the bytes `FetchByte` reads from offset `ip` of CS on, the offset wrapping inside the
segment (R29). -/
def State.fetchFrom (s : State) : Nat → Word → Except Fault (List Byte)
  | 0, _ => .ok []
  | n + 1, ip =>
    (s.memRead8 s.cs ip).bind fun b => (s.fetchFrom n (ip + 1)).map fun bytes => b :: bytes

/-- R68, R91: the bytes at CS:IP, as many as the longest instruction has. Which of them belong to the
instruction is the decoder's to say; reading the others changes nothing (R64, R70). -/
def State.fetchWindow (s : State) : Except Fault (List Byte) := s.fetchFrom maxInstrLength s.ip

/-- R28: IP after `n` bytes of the stream were consumed. -/
def State.advance (s : State) (n : Nat) : State := s.withIp (s.ip + BitVec.ofNat 16 n)

/-! ### Stack -/

/-- R270 `Push16`. -/
def State.push16 (s : State) (v : Word) : Except Fault State :=
  (s.setReg16 .sp (s.sp - 2)).memWrite16 s.ss (s.sp - 2) v

/-- R271 `Pop16`: the word and the state after it. -/
def State.pop16 (s : State) : Except Fault (Word × State) :=
  (s.memRead16 s.ss s.sp).map fun v => (v, s.setReg16 .sp (s.sp + 2))

/-! ### Free values -/

/-- R9 `draw(1)`, the `k`-th of the instruction. -/
def State.drawnBit (s : State) (k : Nat) : Bool := (Config.freeWord (s.draws + k)).getLsbD 0

/-- R9 `draw(16)`, the `k`-th of the instruction. -/
def State.drawnWord (s : State) (k : Nat) : Word := Config.freeWord (s.draws + k)

/-- The state after an instruction drew `n` free values. -/
def State.drew (s : State) (n : Nat) : State := { s with draws := s.draws + n }

/-! ### Events -/

/-- R38 `emit DIAG(e)`. -/
def State.emitDiag (s : State) (e : DiagEvent) : State := { s with diag := s.diag ++ [e] }

/-- R36 `emit CONOUT(b)` for each byte in order. -/
def State.emitConout (s : State) (bytes : List Byte) : State := { s with conout := s.conout ++ bytes }

/-- R9, R363 `raise Terminate(code)`. -/
def raiseTerminate (code : Byte) (s : State) : State := s.withStatus (.terminated code)

/-- R350, D32: the unrecognized-opcode rule. The event is logged and the run stops; IP, which is past the
`fetched` bytes of the instruction, becomes a free value from 1 to 4 bytes past the first of them
(notes/assumptions/6.md and 7.md). -/
def raiseUnsupported (op : Byte) (fetched : Nat) (s : State) : State :=
  let first := s.ip - BitVec.ofNat 16 fetched
  let moved := s.withIp (first + BitVec.ofNat 16 (1 + (s.drawnWord 0).toNat % 4))
  ((moved.emitDiag (.unsupportedOpcode op)).drew 1).withStatus (.stopped op)

/-- R34, R342, D31: the end of every step, whether or not the instruction ended the run: INTDELAY counts
down, and stops at 0. -/
def State.endInstruction (s : State) : State := { s with intDelay := s.intDelay - 1 }

end Sys2Proof.Machine
end

