-- ==== Sys2Proof/Machine/Operands.lean ====
section
/-! DEFINITION. The operand forms: the Addressing-Mode Resolver (spec/30_encoding.md R96 to R99), the r/m
operand (R104) and the sign extension of byte immediates and displacements (R105). -/

namespace Sys2Proof.Machine

/-- R8 `sext_16`. -/
def signExtendByte (b : Byte) : Word := b.signExtend 16

/-- R96, R99: the value of a base expression, modulo 2^16. -/
def State.baseValue (s : State) : Base → Word
  | .bxSi => s.bx + s.si
  | .bxDi => s.bx + s.di
  | .bpSi => s.bp + s.si
  | .bpDi => s.bp + s.di
  | .si => s.si
  | .di => s.di
  | .bp => s.bp
  | .bx => s.bx

/-- R98: SS when BP is part of the base, else DS. -/
def State.baseSegment (s : State) : Base → Word
  | .bpSi | .bpDi | .bp => s.ss
  | .bxSi | .bxDi | .si | .di | .bx => s.ds

/-- R99 `Resolve`: the segment and offset of a memory operand. -/
def State.resolve (s : State) : MemOperand → Word × Word
  | .direct off => (s.ds, off)
  | .base b => (s.baseSegment b, s.baseValue b)
  | .disp8 b d => (s.baseSegment b, s.baseValue b + signExtendByte d)
  | .disp16 b d => (s.baseSegment b, s.baseValue b + d)

/-- R104: where the r/m operand is, computed once per instruction. -/
inductive Loc (R : Type) where
  | reg (r : R)
  | mem (seg off : Word)
  deriving DecidableEq, Repr

/-- R104: the `loc` of an r/m operand. -/
def State.locate {R : Type} (s : State) : RM R → Loc R
  | .reg r => .reg r
  | .mem m => .mem (s.resolve m).1 (s.resolve m).2

/-- R104 `ReadRM(8)`. -/
def State.readLoc8 (s : State) : Loc Reg8 → Except Fault Byte
  | .reg r => .ok (s.reg8 r)
  | .mem seg off => s.memRead8 seg off

/-- R104 `ReadRM(16)`. -/
def State.readLoc16 (s : State) : Loc Reg16 → Except Fault Word
  | .reg r => .ok (s.reg16 r)
  | .mem seg off => s.memRead16 seg off

/-- R104 `WriteRM(8, v)`. -/
def State.writeLoc8 (s : State) (loc : Loc Reg8) (v : Byte) : Except Fault State :=
  match loc with
  | .reg r => .ok (s.setReg8 r v)
  | .mem seg off => s.memWrite8 seg off v

/-- R104 `WriteRM(16, v)`. -/
def State.writeLoc16 (s : State) (loc : Loc Reg16) (v : Word) : Except Fault State :=
  match loc with
  | .reg r => .ok (s.setReg16 r v)
  | .mem seg off => s.memWrite16 seg off v

/-- The r/m operand of a byte operation, read. -/
def State.readRM8 (s : State) (rm : RM8) : Except Fault Byte := s.readLoc8 (s.locate rm)

/-- The r/m operand of a word operation, read. -/
def State.readRM16 (s : State) (rm : RM16) : Except Fault Word := s.readLoc16 (s.locate rm)

/-- The physical addresses of a byte operand in memory; a register operand has none. -/
def Loc.cells8 (s : State) : Loc Reg8 → List Nat
  | .reg _ => []
  | .mem seg off => [s.phys seg off]

/-- The physical addresses of a word operand in memory; a register operand has none. -/
def Loc.cells16 (s : State) : Loc Reg16 → List Nat
  | .reg _ => []
  | .mem seg off => [s.phys seg off, s.phys seg (off + 1)]

end Sys2Proof.Machine
end

