-- ==== Sys2Proof/Machine/Alu.lean ====
section
/-! DEFINITION. ADD, OR, ADC, SBB, AND, SUB, XOR, CMP, INC and DEC (spec/41_alu.md R166 to R179). -/

namespace Sys2Proof.Machine

/-- R166, `OP r/m8, source`: one read of the operand, the flags, and one write unless the instruction
is CMP. -/
def aluRm8 (op : AluOp) (rm : RM8) (right : Byte) (s : State) : Except Fault State :=
  (s.readRM8 rm).bind fun left =>
    let res := op.compute left right s.flags
    if op.writes then (s.withFlags res.2).writeLoc8 (s.locate rm) res.1 else .ok (s.withFlags res.2)

/-- R166, `OP r/m16, source`. -/
def aluRm16 (op : AluOp) (rm : RM16) (right : Word) (s : State) : Except Fault State :=
  (s.readRM16 rm).bind fun left =>
    let res := op.compute left right s.flags
    if op.writes then (s.withFlags res.2).writeLoc16 (s.locate rm) res.1 else .ok (s.withFlags res.2)

/-- R166, a byte register as the destination: `OP AL, imm8` and the end of `OP r8, r/m8`. -/
def aluReg8 (op : AluOp) (r : Reg8) (right : Byte) (s : State) : Except Fault State :=
  let res := op.compute (s.reg8 r) right s.flags
  .ok (if op.writes then (s.withFlags res.2).setReg8 r res.1 else s.withFlags res.2)

/-- R166, a word register as the destination: `OP AX, imm16` and the end of `OP r16, r/m16`. -/
def aluReg16 (op : AluOp) (r : Reg16) (right : Word) (s : State) : Except Fault State :=
  let res := op.compute (s.reg16 r) right s.flags
  .ok (if op.writes then (s.withFlags res.2).setReg16 r res.1 else s.withFlags res.2)

/-- R166, `OP r8, r/m8`. -/
def aluReg8FromRm (op : AluOp) (r : Reg8) (rm : RM8) (s : State) : Except Fault State :=
  (s.readRM8 rm).bind fun right => aluReg8 op r right s

/-- R166, `OP r16, r/m16`. -/
def aluReg16FromRm (op : AluOp) (r : Reg16) (rm : RM16) (s : State) : Except Fault State :=
  (s.readRM16 rm).bind fun right => aluReg16 op r right s

/-- R178, R179, the word-register form. -/
def incDecReg16 (op : IncDec) (r : Reg16) (s : State) : Except Fault State :=
  let res := op.compute (s.reg16 r) s.flags
  .ok ((s.withFlags res.2).setReg16 r res.1)

/-- R178, R179, the r/m8 form. -/
def incDecRm8 (op : IncDec) (rm : RM8) (s : State) : Except Fault State :=
  (s.readRM8 rm).bind fun v =>
    let res := op.compute v s.flags
    (s.withFlags res.2).writeLoc8 (s.locate rm) res.1

/-- R178, R179, the r/m16 form. -/
def incDecRm16 (op : IncDec) (rm : RM16) (s : State) : Except Fault State :=
  (s.readRM16 rm).bind fun v =>
    let res := op.compute v s.flags
    (s.withFlags res.2).writeLoc16 (s.locate rm) res.1

/-- R170: ADD r/m8, r8 (00). -/
def execAddRm8R8 (rm : RM8) (r : Reg8) (s : State) : Result := finish (aluRm8 .add rm (s.reg8 r) s)

/-- R170: ADD r/m16, r16 (01). -/
def execAddRm16R16 (rm : RM16) (r : Reg16) (s : State) : Result :=
  finish (aluRm16 .add rm (s.reg16 r) s)

/-- R170: ADD r8, r/m8 (02). -/
def execAddR8Rm8 (rm : RM8) (r : Reg8) (s : State) : Result := finish (aluReg8FromRm .add r rm s)

/-- R170: ADD r16, r/m16 (03). -/
def execAddR16Rm16 (rm : RM16) (r : Reg16) (s : State) : Result :=
  finish (aluReg16FromRm .add r rm s)

/-- R170: ADD AL, imm8 (04). -/
def execAddAlImm8 (imm : Byte) (s : State) : Result := finish (aluReg8 .add .al imm s)

/-- R170: ADD AX, imm16 (05). -/
def execAddAxImm16 (imm : Word) (s : State) : Result := finish (aluReg16 .add .ax imm s)

/-- R171: OR r/m8, r8 (08). -/
def execOrRm8R8 (rm : RM8) (r : Reg8) (s : State) : Result := finish (aluRm8 .or rm (s.reg8 r) s)

/-- R171: OR r/m16, r16 (09). -/
def execOrRm16R16 (rm : RM16) (r : Reg16) (s : State) : Result :=
  finish (aluRm16 .or rm (s.reg16 r) s)

/-- R171: OR r8, r/m8 (0A). -/
def execOrR8Rm8 (rm : RM8) (r : Reg8) (s : State) : Result := finish (aluReg8FromRm .or r rm s)

/-- R171: OR r16, r/m16 (0B). -/
def execOrR16Rm16 (rm : RM16) (r : Reg16) (s : State) : Result := finish (aluReg16FromRm .or r rm s)

/-- R171: OR AL, imm8 (0C). -/
def execOrAlImm8 (imm : Byte) (s : State) : Result := finish (aluReg8 .or .al imm s)

/-- R171: OR AX, imm16 (0D). -/
def execOrAxImm16 (imm : Word) (s : State) : Result := finish (aluReg16 .or .ax imm s)

/-- R172: ADC r/m8, r8 (10). -/
def execAdcRm8R8 (rm : RM8) (r : Reg8) (s : State) : Result := finish (aluRm8 .adc rm (s.reg8 r) s)

/-- R172: ADC r/m16, r16 (11). -/
def execAdcRm16R16 (rm : RM16) (r : Reg16) (s : State) : Result :=
  finish (aluRm16 .adc rm (s.reg16 r) s)

/-- R172: ADC r8, r/m8 (12). -/
def execAdcR8Rm8 (rm : RM8) (r : Reg8) (s : State) : Result := finish (aluReg8FromRm .adc r rm s)

/-- R172: ADC r16, r/m16 (13). -/
def execAdcR16Rm16 (rm : RM16) (r : Reg16) (s : State) : Result :=
  finish (aluReg16FromRm .adc r rm s)

/-- R172: ADC AL, imm8 (14). -/
def execAdcAlImm8 (imm : Byte) (s : State) : Result := finish (aluReg8 .adc .al imm s)

/-- R172: ADC AX, imm16 (15). -/
def execAdcAxImm16 (imm : Word) (s : State) : Result := finish (aluReg16 .adc .ax imm s)

/-- R173: SBB r/m8, r8 (18). -/
def execSbbRm8R8 (rm : RM8) (r : Reg8) (s : State) : Result := finish (aluRm8 .sbb rm (s.reg8 r) s)

/-- R173: SBB r/m16, r16 (19). -/
def execSbbRm16R16 (rm : RM16) (r : Reg16) (s : State) : Result :=
  finish (aluRm16 .sbb rm (s.reg16 r) s)

/-- R173: SBB r8, r/m8 (1A). -/
def execSbbR8Rm8 (rm : RM8) (r : Reg8) (s : State) : Result := finish (aluReg8FromRm .sbb r rm s)

/-- R173: SBB r16, r/m16 (1B). -/
def execSbbR16Rm16 (rm : RM16) (r : Reg16) (s : State) : Result :=
  finish (aluReg16FromRm .sbb r rm s)

/-- R173: SBB AL, imm8 (1C). -/
def execSbbAlImm8 (imm : Byte) (s : State) : Result := finish (aluReg8 .sbb .al imm s)

/-- R173: SBB AX, imm16 (1D). -/
def execSbbAxImm16 (imm : Word) (s : State) : Result := finish (aluReg16 .sbb .ax imm s)

/-- R174: AND r/m8, r8 (20). -/
def execAndRm8R8 (rm : RM8) (r : Reg8) (s : State) : Result := finish (aluRm8 .and rm (s.reg8 r) s)

/-- R174: AND r/m16, r16 (21). -/
def execAndRm16R16 (rm : RM16) (r : Reg16) (s : State) : Result :=
  finish (aluRm16 .and rm (s.reg16 r) s)

/-- R174: AND r8, r/m8 (22). -/
def execAndR8Rm8 (rm : RM8) (r : Reg8) (s : State) : Result := finish (aluReg8FromRm .and r rm s)

/-- R174: AND r16, r/m16 (23). -/
def execAndR16Rm16 (rm : RM16) (r : Reg16) (s : State) : Result :=
  finish (aluReg16FromRm .and r rm s)

/-- R174: AND AL, imm8 (24). -/
def execAndAlImm8 (imm : Byte) (s : State) : Result := finish (aluReg8 .and .al imm s)

/-- R174: AND AX, imm16 (25). -/
def execAndAxImm16 (imm : Word) (s : State) : Result := finish (aluReg16 .and .ax imm s)

/-- R175: SUB r/m8, r8 (28). -/
def execSubRm8R8 (rm : RM8) (r : Reg8) (s : State) : Result := finish (aluRm8 .sub rm (s.reg8 r) s)

/-- R175: SUB r/m16, r16 (29). -/
def execSubRm16R16 (rm : RM16) (r : Reg16) (s : State) : Result :=
  finish (aluRm16 .sub rm (s.reg16 r) s)

/-- R175: SUB r8, r/m8 (2A). -/
def execSubR8Rm8 (rm : RM8) (r : Reg8) (s : State) : Result := finish (aluReg8FromRm .sub r rm s)

/-- R175: SUB r16, r/m16 (2B). -/
def execSubR16Rm16 (rm : RM16) (r : Reg16) (s : State) : Result :=
  finish (aluReg16FromRm .sub r rm s)

/-- R175: SUB AL, imm8 (2C). -/
def execSubAlImm8 (imm : Byte) (s : State) : Result := finish (aluReg8 .sub .al imm s)

/-- R175: SUB AX, imm16 (2D). -/
def execSubAxImm16 (imm : Word) (s : State) : Result := finish (aluReg16 .sub .ax imm s)

/-- R176: XOR r/m8, r8 (30). -/
def execXorRm8R8 (rm : RM8) (r : Reg8) (s : State) : Result := finish (aluRm8 .xor rm (s.reg8 r) s)

/-- R176: XOR r/m16, r16 (31). -/
def execXorRm16R16 (rm : RM16) (r : Reg16) (s : State) : Result :=
  finish (aluRm16 .xor rm (s.reg16 r) s)

/-- R176: XOR r8, r/m8 (32). -/
def execXorR8Rm8 (rm : RM8) (r : Reg8) (s : State) : Result := finish (aluReg8FromRm .xor r rm s)

/-- R176: XOR r16, r/m16 (33). -/
def execXorR16Rm16 (rm : RM16) (r : Reg16) (s : State) : Result :=
  finish (aluReg16FromRm .xor r rm s)

/-- R176: XOR AL, imm8 (34). -/
def execXorAlImm8 (imm : Byte) (s : State) : Result := finish (aluReg8 .xor .al imm s)

/-- R176: XOR AX, imm16 (35). -/
def execXorAxImm16 (imm : Word) (s : State) : Result := finish (aluReg16 .xor .ax imm s)

/-- R177: CMP r/m8, r8 (38). -/
def execCmpRm8R8 (rm : RM8) (r : Reg8) (s : State) : Result := finish (aluRm8 .cmp rm (s.reg8 r) s)

/-- R177: CMP r/m16, r16 (39). -/
def execCmpRm16R16 (rm : RM16) (r : Reg16) (s : State) : Result :=
  finish (aluRm16 .cmp rm (s.reg16 r) s)

/-- R177: CMP r8, r/m8 (3A). -/
def execCmpR8Rm8 (rm : RM8) (r : Reg8) (s : State) : Result := finish (aluReg8FromRm .cmp r rm s)

/-- R177: CMP r16, r/m16 (3B). -/
def execCmpR16Rm16 (rm : RM16) (r : Reg16) (s : State) : Result :=
  finish (aluReg16FromRm .cmp r rm s)

/-- R177: CMP AL, imm8 (3C). -/
def execCmpAlImm8 (imm : Byte) (s : State) : Result := finish (aluReg8 .cmp .al imm s)

/-- R177: CMP AX, imm16 (3D). -/
def execCmpAxImm16 (imm : Word) (s : State) : Result := finish (aluReg16 .cmp .ax imm s)

/-- R178: INC AX (40). -/
def execIncAx (s : State) : Result := finish (incDecReg16 .inc .ax s)

/-- R178: INC CX (41). -/
def execIncCx (s : State) : Result := finish (incDecReg16 .inc .cx s)

/-- R178: INC DX (42). -/
def execIncDx (s : State) : Result := finish (incDecReg16 .inc .dx s)

/-- R178: INC BX (43). -/
def execIncBx (s : State) : Result := finish (incDecReg16 .inc .bx s)

/-- R178: INC SP (44). -/
def execIncSp (s : State) : Result := finish (incDecReg16 .inc .sp s)

/-- R178: INC BP (45). -/
def execIncBp (s : State) : Result := finish (incDecReg16 .inc .bp s)

/-- R178: INC SI (46). -/
def execIncSi (s : State) : Result := finish (incDecReg16 .inc .si s)

/-- R178: INC DI (47). -/
def execIncDi (s : State) : Result := finish (incDecReg16 .inc .di s)

/-- R179: DEC AX (48). -/
def execDecAx (s : State) : Result := finish (incDecReg16 .dec .ax s)

/-- R179: DEC CX (49). -/
def execDecCx (s : State) : Result := finish (incDecReg16 .dec .cx s)

/-- R179: DEC DX (4A). -/
def execDecDx (s : State) : Result := finish (incDecReg16 .dec .dx s)

/-- R179: DEC BX (4B). -/
def execDecBx (s : State) : Result := finish (incDecReg16 .dec .bx s)

/-- R179: DEC SP (4C). -/
def execDecSp (s : State) : Result := finish (incDecReg16 .dec .sp s)

/-- R179: DEC BP (4D). -/
def execDecBp (s : State) : Result := finish (incDecReg16 .dec .bp s)

/-- R179: DEC SI (4E). -/
def execDecSi (s : State) : Result := finish (incDecReg16 .dec .si s)

/-- R179: DEC DI (4F). -/
def execDecDi (s : State) : Result := finish (incDecReg16 .dec .di s)

/-- R170: ADD r/m8, imm8 (80 /0). -/
def execAddRm8Imm8 (rm : RM8) (imm : Byte) (s : State) : Result := finish (aluRm8 .add rm imm s)

/-- R171: OR r/m8, imm8 (80 /1). -/
def execOrRm8Imm8 (rm : RM8) (imm : Byte) (s : State) : Result := finish (aluRm8 .or rm imm s)

/-- R172: ADC r/m8, imm8 (80 /2). -/
def execAdcRm8Imm8 (rm : RM8) (imm : Byte) (s : State) : Result := finish (aluRm8 .adc rm imm s)

/-- R173: SBB r/m8, imm8 (80 /3). -/
def execSbbRm8Imm8 (rm : RM8) (imm : Byte) (s : State) : Result := finish (aluRm8 .sbb rm imm s)

/-- R174: AND r/m8, imm8 (80 /4). -/
def execAndRm8Imm8 (rm : RM8) (imm : Byte) (s : State) : Result := finish (aluRm8 .and rm imm s)

/-- R175: SUB r/m8, imm8 (80 /5). -/
def execSubRm8Imm8 (rm : RM8) (imm : Byte) (s : State) : Result := finish (aluRm8 .sub rm imm s)

/-- R176: XOR r/m8, imm8 (80 /6). -/
def execXorRm8Imm8 (rm : RM8) (imm : Byte) (s : State) : Result := finish (aluRm8 .xor rm imm s)

/-- R177: CMP r/m8, imm8 (80 /7). -/
def execCmpRm8Imm8 (rm : RM8) (imm : Byte) (s : State) : Result := finish (aluRm8 .cmp rm imm s)

/-- R170: ADD r/m16, imm16 (81 /0). -/
def execAddRm16Imm16 (rm : RM16) (imm : Word) (s : State) : Result := finish (aluRm16 .add rm imm s)

/-- R171: OR r/m16, imm16 (81 /1). -/
def execOrRm16Imm16 (rm : RM16) (imm : Word) (s : State) : Result := finish (aluRm16 .or rm imm s)

/-- R172: ADC r/m16, imm16 (81 /2). -/
def execAdcRm16Imm16 (rm : RM16) (imm : Word) (s : State) : Result := finish (aluRm16 .adc rm imm s)

/-- R173: SBB r/m16, imm16 (81 /3). -/
def execSbbRm16Imm16 (rm : RM16) (imm : Word) (s : State) : Result := finish (aluRm16 .sbb rm imm s)

/-- R174: AND r/m16, imm16 (81 /4). -/
def execAndRm16Imm16 (rm : RM16) (imm : Word) (s : State) : Result := finish (aluRm16 .and rm imm s)

/-- R175: SUB r/m16, imm16 (81 /5). -/
def execSubRm16Imm16 (rm : RM16) (imm : Word) (s : State) : Result := finish (aluRm16 .sub rm imm s)

/-- R176: XOR r/m16, imm16 (81 /6). -/
def execXorRm16Imm16 (rm : RM16) (imm : Word) (s : State) : Result := finish (aluRm16 .xor rm imm s)

/-- R177: CMP r/m16, imm16 (81 /7). -/
def execCmpRm16Imm16 (rm : RM16) (imm : Word) (s : State) : Result := finish (aluRm16 .cmp rm imm s)

/-- R170: ADD r/m16, simm8 (83 /0). -/
def execAddRm16Simm8 (rm : RM16) (imm : Byte) (s : State) : Result :=
  finish (aluRm16 .add rm (signExtendByte imm) s)

/-- R171: OR r/m16, simm8 (83 /1). -/
def execOrRm16Simm8 (rm : RM16) (imm : Byte) (s : State) : Result :=
  finish (aluRm16 .or rm (signExtendByte imm) s)

/-- R172: ADC r/m16, simm8 (83 /2). -/
def execAdcRm16Simm8 (rm : RM16) (imm : Byte) (s : State) : Result :=
  finish (aluRm16 .adc rm (signExtendByte imm) s)

/-- R173: SBB r/m16, simm8 (83 /3). -/
def execSbbRm16Simm8 (rm : RM16) (imm : Byte) (s : State) : Result :=
  finish (aluRm16 .sbb rm (signExtendByte imm) s)

/-- R174: AND r/m16, simm8 (83 /4). -/
def execAndRm16Simm8 (rm : RM16) (imm : Byte) (s : State) : Result :=
  finish (aluRm16 .and rm (signExtendByte imm) s)

/-- R175: SUB r/m16, simm8 (83 /5). -/
def execSubRm16Simm8 (rm : RM16) (imm : Byte) (s : State) : Result :=
  finish (aluRm16 .sub rm (signExtendByte imm) s)

/-- R176: XOR r/m16, simm8 (83 /6). -/
def execXorRm16Simm8 (rm : RM16) (imm : Byte) (s : State) : Result :=
  finish (aluRm16 .xor rm (signExtendByte imm) s)

/-- R177: CMP r/m16, simm8 (83 /7). -/
def execCmpRm16Simm8 (rm : RM16) (imm : Byte) (s : State) : Result :=
  finish (aluRm16 .cmp rm (signExtendByte imm) s)

/-- R178: INC r/m8 (FE /0). -/
def execIncRm8 (rm : RM8) (s : State) : Result := finish (incDecRm8 .inc rm s)

/-- R179: DEC r/m8 (FE /1). -/
def execDecRm8 (rm : RM8) (s : State) : Result := finish (incDecRm8 .dec rm s)

/-- R178: INC r/m16 (FF /0). -/
def execIncRm16 (rm : RM16) (s : State) : Result := finish (incDecRm16 .inc rm s)

/-- R179: DEC r/m16 (FF /1). -/
def execDecRm16 (rm : RM16) (s : State) : Result := finish (incDecRm16 .dec rm s)

end Sys2Proof.Machine
end

