-- ==== Sys2Proof/Machine/Bcd.lean ====
section
/-! DEFINITION. DAA, DAS, AAA, AAS, AAM and AAD (spec/42_bcd.md R200 to R206). The flags the spec leaves
open are free values (D22). -/

namespace Sys2Proof.Machine

/-- R200: what the four corrections have in common. AL, CF and AF are the correction's, ZF, SF and PF
are those of the final AL, and OF is a free value. -/
def applyCorrection (c : Correction) (s : State) : State :=
  let fl := setSZP c.al (putCarries s.flags c.cf c.af (s.drawnBit 0))
  ((s.withFlags fl).setReg8 .al c.al).drew 1

/-- R201. -/
def adjustAfterAddDecimal (s : State) : Except Fault State :=
  .ok (applyCorrection (daaCorrection (s.reg8 .al) (s.flag .cf) (s.flag .af)) s)

/-- R202. -/
def adjustAfterSubDecimal (s : State) : Except Fault State :=
  .ok (applyCorrection (dasCorrection (s.reg8 .al) (s.flag .cf) (s.flag .af)) s)

/-- R203: AH is incremented in the adjusting branch, unless the parameter `AAA_ADJUSTS_AH` is false. -/
def adjustAfterAddAscii (s : State) : Except Fault State :=
  let c := asciiCorrection (s.reg8 .al) (s.flag .af) 6
  .ok ((applyCorrection c s).setReg8 .ah
    (if c.af && s.cfg.aaaAdjustsAh then s.reg8 .ah + 1 else s.reg8 .ah))

/-- R204: AH is decremented in the adjusting branch. -/
def adjustAfterSubAscii (s : State) : Except Fault State :=
  let c := asciiCorrection (s.reg8 .al) (s.flag .af) (-6)
  .ok ((applyCorrection c s).setReg8 .ah (if c.af then s.reg8 .ah - 1 else s.reg8 .ah))

/-- R205, R206: a base other than 10 is logged. -/
def logBase (base : Byte) (s : State) : State :=
  if base = usualBase then s else s.emitDiag (.unusualBase base)

/-- R205, R206: AL and AH written, ZF, SF and PF from AL, and CF, AF and OF free values. -/
def putBaseResult (ah al : Byte) (s : State) : State :=
  let fl := setSZP al (putCarries s.flags (s.drawnBit 0) (s.drawnBit 1) (s.drawnBit 2))
  (((s.withFlags fl).setReg8 .ah ah).setReg8 .al al).drew 3

/-- R205: AL split into quotient and remainder; base 0 is a fault. -/
def splitByBase (base : Byte) (s : State) : Except Fault State :=
  if base = 0 then .error .divideByZero
  else .ok (putBaseResult (s.reg8 .al / base) (s.reg8 .al % base) (logBase base s))

/-- R206: AH folded into AL. -/
def foldByBase (base : Byte) (s : State) : Except Fault State :=
  .ok (putBaseResult 0 (s.reg8 .al + s.reg8 .ah * base) (logBase base s))

/-- R201: DAA AL (implicit) (27). -/
def execDaa (s : State) : Result := finish (adjustAfterAddDecimal s)

/-- R202: DAS AL (implicit) (2F). -/
def execDas (s : State) : Result := finish (adjustAfterSubDecimal s)

/-- R203: AAA AL, AH (implicit) (37). -/
def execAaa (s : State) : Result := finish (adjustAfterAddAscii s)

/-- R204: AAS AL, AH (implicit) (3F). -/
def execAas (s : State) : Result := finish (adjustAfterSubAscii s)

/-- R205: AAM base8 (D4). -/
def execAam (base : Byte) (s : State) : Result := finish (splitByBase base s)

/-- R206: AAD base8 (D5). -/
def execAad (base : Byte) (s : State) : Result := finish (foldByBase base s)

end Sys2Proof.Machine
end

