-- ==== Sys2Proof/Machine/Control.lean ====
section
/-! DEFINITION. Jumps, calls, returns, conditional branches and the loop family
(spec/46_control.md R290 to R330). IP already points at the next instruction (R28). -/

namespace Sys2Proof.Machine

/-- R290: `IP <- (IP + d) mod 2^16`. -/
def State.branch (s : State) (d : Word) : State := s.withIp (s.ip + d)

/-- R290: a far transfer. -/
def State.transfer (s : State) (seg off : Word) : State := (s.setSreg .cs seg).withIp off

/-- R291, R292. -/
def jumpBy (d : Word) (s : State) : Except Fault State := .ok (s.branch d)

/-- R293. -/
def jumpFarTo (off seg : Word) (s : State) : Except Fault State := .ok (s.transfer seg off)

/-- R295. -/
def callNearBy (d : Word) (s : State) : Except Fault State := (s.push16 s.ip).map fun t => t.branch d

/-- R296: the segment is pushed first. -/
def callFarTo (off seg : Word) (s : State) : Except Fault State :=
  (s.push16 s.cs).bind fun t => (t.push16 s.ip).map fun u => u.transfer seg off

/-- R298, R299: the offset is popped, then `n` bytes are discarded. -/
def returnNear (n : Word) (s : State) : Except Fault State :=
  s.pop16.map fun (off, t) => (t.withIp off).setReg16 .sp (t.sp + n)

/-- R300, R301: the offset is popped, then the segment, then `n` bytes are discarded. -/
def returnFar (n : Word) (s : State) : Except Fault State :=
  s.pop16.bind fun (off, t) =>
    t.pop16.map fun (seg, u) => (u.transfer seg off).setReg16 .sp (u.sp + n)

/-- R304: the displacement is consumed whether or not the branch is taken. -/
def jumpIf (c : Cond) (rel : Byte) (s : State) : Except Fault State :=
  .ok (if c.holds s.flags then s.branch (signExtendByte rel) else s)

/-- R328. -/
def jumpIfCxZero (rel : Byte) (s : State) : Except Fault State :=
  .ok (if s.cx = 0 then s.branch (signExtendByte rel) else s)

/-- R324: CX is decremented; the flags of `DEC CX` are written where the parameter
`LOOP_WRITES_FLAGS` says so. -/
def State.countDown (s : State) : State :=
  (s.withFlags (if s.cfg.loopWritesFlags then (IncDec.dec.compute s.cx s.flags).2 else s.flags)).setReg16
    .cx (s.cx - 1)

/-- R325 to R327: decrement, then test. -/
def loopOn (k : LoopKind) (rel : Byte) (s : State) : Except Fault State :=
  let t := s.countDown
  .ok (if t.cx ≠ 0 ∧ k.holds t.flags = true then t.branch (signExtendByte rel) else t)

/-- R305: JO rel8 (70). -/
def execJo (rel : Byte) (s : State) : Result := finish (jumpIf .o rel s)

/-- R306: JNO rel8 (71). -/
def execJno (rel : Byte) (s : State) : Result := finish (jumpIf .no rel s)

/-- R307: JB rel8 (72). -/
def execJb (rel : Byte) (s : State) : Result := finish (jumpIf .b rel s)

/-- R308: JAE rel8 (73). -/
def execJae (rel : Byte) (s : State) : Result := finish (jumpIf .ae rel s)

/-- R309: JE rel8 (74). -/
def execJe (rel : Byte) (s : State) : Result := finish (jumpIf .e rel s)

/-- R310: JNE rel8 (75). -/
def execJne (rel : Byte) (s : State) : Result := finish (jumpIf .ne rel s)

/-- R311: JBE rel8 (76). -/
def execJbe (rel : Byte) (s : State) : Result := finish (jumpIf .be rel s)

/-- R312: JA rel8 (77). -/
def execJa (rel : Byte) (s : State) : Result := finish (jumpIf .a rel s)

/-- R313: JS rel8 (78). -/
def execJs (rel : Byte) (s : State) : Result := finish (jumpIf .s rel s)

/-- R314: JNS rel8 (79). -/
def execJns (rel : Byte) (s : State) : Result := finish (jumpIf .ns rel s)

/-- R315: JP rel8 (7A). -/
def execJp (rel : Byte) (s : State) : Result := finish (jumpIf .p rel s)

/-- R316: JNP rel8 (7B). -/
def execJnp (rel : Byte) (s : State) : Result := finish (jumpIf .np rel s)

/-- R317: JL rel8 (7C). -/
def execJl (rel : Byte) (s : State) : Result := finish (jumpIf .l rel s)

/-- R318: JGE rel8 (7D). -/
def execJge (rel : Byte) (s : State) : Result := finish (jumpIf .ge rel s)

/-- R319: JLE rel8 (7E). -/
def execJle (rel : Byte) (s : State) : Result := finish (jumpIf .le rel s)

/-- R320: JG rel8 (7F). -/
def execJg (rel : Byte) (s : State) : Result := finish (jumpIf .g rel s)

/-- R296: CALL ptr16:16 (9A). -/
def execCallFar (off : Word) (seg : Word) (s : State) : Result := finish (callFarTo off seg s)

/-- R299: RET pop16 (C2). -/
def execRetPop (count : Word) (s : State) : Result := finish (returnNear count s)

/-- R298: RET (C3). -/
def execRet (s : State) : Result := finish (returnNear 0 s)

/-- R301: RETF pop16 (CA). -/
def execRetfPop (count : Word) (s : State) : Result := finish (returnFar count s)

/-- R300: RETF (CB). -/
def execRetf (s : State) : Result := finish (returnFar 0 s)

/-- R326: LOOPNE rel8 (E0). -/
def execLoopne (rel : Byte) (s : State) : Result := finish (loopOn .whileNotZero rel s)

/-- R327: LOOPE rel8 (E1). -/
def execLoope (rel : Byte) (s : State) : Result := finish (loopOn .whileZero rel s)

/-- R325: LOOP rel8 (E2). -/
def execLoop (rel : Byte) (s : State) : Result := finish (loopOn .always rel s)

/-- R328: JCXZ rel8 (E3). -/
def execJcxz (rel : Byte) (s : State) : Result := finish (jumpIfCxZero rel s)

/-- R295: CALL rel16 (E8). -/
def execCallNear (rel : Word) (s : State) : Result := finish (callNearBy rel s)

/-- R291: JMP rel16 (E9). -/
def execJmpNear (rel : Word) (s : State) : Result := finish (jumpBy rel s)

/-- R293: JMP ptr16:16 (EA). -/
def execJmpFar (off : Word) (seg : Word) (s : State) : Result := finish (jumpFarTo off seg s)

/-- R292: JMP rel8 (EB). -/
def execJmpShort (rel : Byte) (s : State) : Result := finish (jumpBy (signExtendByte rel) s)

end Sys2Proof.Machine
end

