-- ==== Sys2Proof/Machine/DataMovement.lean ====
section
/-! DEFINITION. MOV in all its forms (spec/40_data_movement.md R140 to R148). No form writes a flag. -/

namespace Sys2Proof.Machine

/-- R141, R144: a byte moved to the r/m operand. -/
def moveToRm8 (rm : RM8) (v : Byte) (s : State) : Except Fault State := s.writeLoc8 (s.locate rm) v

/-- R141, R144, R145: a word moved to the r/m operand. -/
def moveToRm16 (rm : RM16) (v : Word) (s : State) : Except Fault State := s.writeLoc16 (s.locate rm) v

/-- R142, the byte form. -/
def moveToReg8 (r : Reg8) (rm : RM8) (s : State) : Except Fault State :=
  (s.readRM8 rm).map fun v => s.setReg8 r v

/-- R142, the word form. -/
def moveToReg16 (r : Reg16) (rm : RM16) (s : State) : Except Fault State :=
  (s.readRM16 rm).map fun v => s.setReg16 r v

/-- R143, the byte form. -/
def moveImm8 (r : Reg8) (imm : Byte) (s : State) : Except Fault State := .ok (s.setReg8 r imm)

/-- R143, the word form. -/
def moveImm16 (r : Reg16) (imm : Word) (s : State) : Except Fault State := .ok (s.setReg16 r imm)

/-- R146: writing SS sets INTDELAY. -/
def moveToSreg (r : SReg) (rm : RM16) (s : State) : Except Fault State :=
  (s.readRM16 rm).map fun v => s.setSreg r v

/-- R147, the byte form. -/
def loadDirect8 (off : Word) (s : State) : Except Fault State :=
  (s.memRead8 s.ds off).map fun v => s.setReg8 .al v

/-- R147, the word form. -/
def loadDirect16 (off : Word) (s : State) : Except Fault State :=
  (s.memRead16 s.ds off).map fun v => s.setReg16 .ax v

/-- R148, the byte form. -/
def storeDirect8 (off : Word) (s : State) : Except Fault State := s.memWrite8 s.ds off (s.reg8 .al)

/-- R148, the word form. -/
def storeDirect16 (off : Word) (s : State) : Except Fault State := s.memWrite16 s.ds off (s.reg16 .ax)

/-- R141: MOV r/m8, r8 (88). -/
def execMovRm8R8 (rm : RM8) (r : Reg8) (s : State) : Result := finish (moveToRm8 rm (s.reg8 r) s)

/-- R141: MOV r/m16, r16 (89). -/
def execMovRm16R16 (rm : RM16) (r : Reg16) (s : State) : Result :=
  finish (moveToRm16 rm (s.reg16 r) s)

/-- R142: MOV r8, r/m8 (8A). -/
def execMovR8Rm8 (rm : RM8) (r : Reg8) (s : State) : Result := finish (moveToReg8 r rm s)

/-- R142: MOV r16, r/m16 (8B). -/
def execMovR16Rm16 (rm : RM16) (r : Reg16) (s : State) : Result := finish (moveToReg16 r rm s)

/-- R145: MOV r/m16, ES (8C /0). -/
def execMovRm16Es (rm : RM16) (s : State) : Result := finish (moveToRm16 rm (s.sreg .es) s)

/-- R145: MOV r/m16, CS (8C /1). -/
def execMovRm16Cs (rm : RM16) (s : State) : Result := finish (moveToRm16 rm (s.sreg .cs) s)

/-- R145: MOV r/m16, SS (8C /2). -/
def execMovRm16Ss (rm : RM16) (s : State) : Result := finish (moveToRm16 rm (s.sreg .ss) s)

/-- R145: MOV r/m16, DS (8C /3). -/
def execMovRm16Ds (rm : RM16) (s : State) : Result := finish (moveToRm16 rm (s.sreg .ds) s)

/-- R146: MOV ES, r/m16 (8E /0). -/
def execMovEsRm16 (rm : RM16) (s : State) : Result := finish (moveToSreg .es rm s)

/-- R146: MOV SS, r/m16 (8E /2). -/
def execMovSsRm16 (rm : RM16) (s : State) : Result := finish (moveToSreg .ss rm s)

/-- R146: MOV DS, r/m16 (8E /3). -/
def execMovDsRm16 (rm : RM16) (s : State) : Result := finish (moveToSreg .ds rm s)

/-- R147: MOV AL, [moffs16] (A0). -/
def execMovAlMoffs (off : Word) (s : State) : Result := finish (loadDirect8 off s)

/-- R147: MOV AX, [moffs16] (A1). -/
def execMovAxMoffs (off : Word) (s : State) : Result := finish (loadDirect16 off s)

/-- R148: MOV [moffs16], AL (A2). -/
def execMovMoffsAl (off : Word) (s : State) : Result := finish (storeDirect8 off s)

/-- R148: MOV [moffs16], AX (A3). -/
def execMovMoffsAx (off : Word) (s : State) : Result := finish (storeDirect16 off s)

/-- R143: MOV AL, imm8 (B0). -/
def execMovAlImm8 (imm : Byte) (s : State) : Result := finish (moveImm8 .al imm s)

/-- R143: MOV CL, imm8 (B1). -/
def execMovClImm8 (imm : Byte) (s : State) : Result := finish (moveImm8 .cl imm s)

/-- R143: MOV DL, imm8 (B2). -/
def execMovDlImm8 (imm : Byte) (s : State) : Result := finish (moveImm8 .dl imm s)

/-- R143: MOV BL, imm8 (B3). -/
def execMovBlImm8 (imm : Byte) (s : State) : Result := finish (moveImm8 .bl imm s)

/-- R143: MOV AH, imm8 (B4). -/
def execMovAhImm8 (imm : Byte) (s : State) : Result := finish (moveImm8 .ah imm s)

/-- R143: MOV CH, imm8 (B5). -/
def execMovChImm8 (imm : Byte) (s : State) : Result := finish (moveImm8 .ch imm s)

/-- R143: MOV DH, imm8 (B6). -/
def execMovDhImm8 (imm : Byte) (s : State) : Result := finish (moveImm8 .dh imm s)

/-- R143: MOV BH, imm8 (B7). -/
def execMovBhImm8 (imm : Byte) (s : State) : Result := finish (moveImm8 .bh imm s)

/-- R143: MOV AX, imm16 (B8). -/
def execMovAxImm16 (imm : Word) (s : State) : Result := finish (moveImm16 .ax imm s)

/-- R143: MOV CX, imm16 (B9). -/
def execMovCxImm16 (imm : Word) (s : State) : Result := finish (moveImm16 .cx imm s)

/-- R143: MOV DX, imm16 (BA). -/
def execMovDxImm16 (imm : Word) (s : State) : Result := finish (moveImm16 .dx imm s)

/-- R143: MOV BX, imm16 (BB). -/
def execMovBxImm16 (imm : Word) (s : State) : Result := finish (moveImm16 .bx imm s)

/-- R143: MOV SP, imm16 (BC). -/
def execMovSpImm16 (imm : Word) (s : State) : Result := finish (moveImm16 .sp imm s)

/-- R143: MOV BP, imm16 (BD). -/
def execMovBpImm16 (imm : Word) (s : State) : Result := finish (moveImm16 .bp imm s)

/-- R143: MOV SI, imm16 (BE). -/
def execMovSiImm16 (imm : Word) (s : State) : Result := finish (moveImm16 .si imm s)

/-- R143: MOV DI, imm16 (BF). -/
def execMovDiImm16 (imm : Word) (s : State) : Result := finish (moveImm16 .di imm s)

/-- R144: MOV r/m8, imm8 (C6 /0). -/
def execMovRm8Imm8 (rm : RM8) (imm : Byte) (s : State) : Result := finish (moveToRm8 rm imm s)

/-- R144: MOV r/m16, imm16 (C7 /0). -/
def execMovRm16Imm16 (rm : RM16) (imm : Word) (s : State) : Result := finish (moveToRm16 rm imm s)

end Sys2Proof.Machine
end

