-- ==== Sys2Proof/Machine/Shift.lean ====
section
/-! DEFINITION. The shifts and rotates (spec/43_shift_rotate.md R220 to R237). -/

namespace Sys2Proof.Machine

/-- R226 for a byte operand: a masked count of 0 neither reads nor writes (R221). -/
def shiftRm8 (op : ShiftOp) (rm : RM8) (count : Byte) (s : State) : Except Fault State :=
  if maskedCount count = 0 then .ok s
  else (s.readRM8 rm).bind fun v =>
    let res := op.compute v count s.flags
    (s.withFlags res.2).writeLoc8 (s.locate rm) res.1

/-- R226 for a word operand. -/
def shiftRm16 (op : ShiftOp) (rm : RM16) (count : Byte) (s : State) : Except Fault State :=
  if maskedCount count = 0 then .ok s
  else (s.readRM16 rm).bind fun v =>
    let res := op.compute v count s.flags
    (s.withFlags res.2).writeLoc16 (s.locate rm) res.1

/-- R230: ROL r/m8, cnt8 (C0 /0). -/
def execRolRm8Cnt (rm : RM8) (cnt : Byte) (s : State) : Result := finish (shiftRm8 .rol rm cnt s)

/-- R231: ROR r/m8, cnt8 (C0 /1). -/
def execRorRm8Cnt (rm : RM8) (cnt : Byte) (s : State) : Result := finish (shiftRm8 .ror rm cnt s)

/-- R232: RCL r/m8, cnt8 (C0 /2). -/
def execRclRm8Cnt (rm : RM8) (cnt : Byte) (s : State) : Result := finish (shiftRm8 .rcl rm cnt s)

/-- R233: RCR r/m8, cnt8 (C0 /3). -/
def execRcrRm8Cnt (rm : RM8) (cnt : Byte) (s : State) : Result := finish (shiftRm8 .rcr rm cnt s)

/-- R234: SHL r/m8, cnt8 (C0 /4). -/
def execShlRm8Cnt (rm : RM8) (cnt : Byte) (s : State) : Result := finish (shiftRm8 .shl rm cnt s)

/-- R235: SHR r/m8, cnt8 (C0 /5). -/
def execShrRm8Cnt (rm : RM8) (cnt : Byte) (s : State) : Result := finish (shiftRm8 .shr rm cnt s)

/-- R236: SAL r/m8, cnt8 (C0 /6). -/
def execSalRm8Cnt (rm : RM8) (cnt : Byte) (s : State) : Result := finish (shiftRm8 .sal rm cnt s)

/-- R237: SAR r/m8, cnt8 (C0 /7). -/
def execSarRm8Cnt (rm : RM8) (cnt : Byte) (s : State) : Result := finish (shiftRm8 .sar rm cnt s)

/-- R230: ROL r/m16, cnt8 (C1 /0). -/
def execRolRm16Cnt (rm : RM16) (cnt : Byte) (s : State) : Result := finish (shiftRm16 .rol rm cnt s)

/-- R231: ROR r/m16, cnt8 (C1 /1). -/
def execRorRm16Cnt (rm : RM16) (cnt : Byte) (s : State) : Result := finish (shiftRm16 .ror rm cnt s)

/-- R232: RCL r/m16, cnt8 (C1 /2). -/
def execRclRm16Cnt (rm : RM16) (cnt : Byte) (s : State) : Result := finish (shiftRm16 .rcl rm cnt s)

/-- R233: RCR r/m16, cnt8 (C1 /3). -/
def execRcrRm16Cnt (rm : RM16) (cnt : Byte) (s : State) : Result := finish (shiftRm16 .rcr rm cnt s)

/-- R234: SHL r/m16, cnt8 (C1 /4). -/
def execShlRm16Cnt (rm : RM16) (cnt : Byte) (s : State) : Result := finish (shiftRm16 .shl rm cnt s)

/-- R235: SHR r/m16, cnt8 (C1 /5). -/
def execShrRm16Cnt (rm : RM16) (cnt : Byte) (s : State) : Result := finish (shiftRm16 .shr rm cnt s)

/-- R236: SAL r/m16, cnt8 (C1 /6). -/
def execSalRm16Cnt (rm : RM16) (cnt : Byte) (s : State) : Result := finish (shiftRm16 .sal rm cnt s)

/-- R237: SAR r/m16, cnt8 (C1 /7). -/
def execSarRm16Cnt (rm : RM16) (cnt : Byte) (s : State) : Result := finish (shiftRm16 .sar rm cnt s)

/-- R230: ROL r/m8, 1 (D0 /0). -/
def execRolRm8One (rm : RM8) (s : State) : Result := finish (shiftRm8 .rol rm 1 s)

/-- R231: ROR r/m8, 1 (D0 /1). -/
def execRorRm8One (rm : RM8) (s : State) : Result := finish (shiftRm8 .ror rm 1 s)

/-- R232: RCL r/m8, 1 (D0 /2). -/
def execRclRm8One (rm : RM8) (s : State) : Result := finish (shiftRm8 .rcl rm 1 s)

/-- R233: RCR r/m8, 1 (D0 /3). -/
def execRcrRm8One (rm : RM8) (s : State) : Result := finish (shiftRm8 .rcr rm 1 s)

/-- R234: SHL r/m8, 1 (D0 /4). -/
def execShlRm8One (rm : RM8) (s : State) : Result := finish (shiftRm8 .shl rm 1 s)

/-- R235: SHR r/m8, 1 (D0 /5). -/
def execShrRm8One (rm : RM8) (s : State) : Result := finish (shiftRm8 .shr rm 1 s)

/-- R236: SAL r/m8, 1 (D0 /6). -/
def execSalRm8One (rm : RM8) (s : State) : Result := finish (shiftRm8 .sal rm 1 s)

/-- R237: SAR r/m8, 1 (D0 /7). -/
def execSarRm8One (rm : RM8) (s : State) : Result := finish (shiftRm8 .sar rm 1 s)

/-- R230: ROL r/m16, 1 (D1 /0). -/
def execRolRm16One (rm : RM16) (s : State) : Result := finish (shiftRm16 .rol rm 1 s)

/-- R231: ROR r/m16, 1 (D1 /1). -/
def execRorRm16One (rm : RM16) (s : State) : Result := finish (shiftRm16 .ror rm 1 s)

/-- R232: RCL r/m16, 1 (D1 /2). -/
def execRclRm16One (rm : RM16) (s : State) : Result := finish (shiftRm16 .rcl rm 1 s)

/-- R233: RCR r/m16, 1 (D1 /3). -/
def execRcrRm16One (rm : RM16) (s : State) : Result := finish (shiftRm16 .rcr rm 1 s)

/-- R234: SHL r/m16, 1 (D1 /4). -/
def execShlRm16One (rm : RM16) (s : State) : Result := finish (shiftRm16 .shl rm 1 s)

/-- R235: SHR r/m16, 1 (D1 /5). -/
def execShrRm16One (rm : RM16) (s : State) : Result := finish (shiftRm16 .shr rm 1 s)

/-- R236: SAL r/m16, 1 (D1 /6). -/
def execSalRm16One (rm : RM16) (s : State) : Result := finish (shiftRm16 .sal rm 1 s)

/-- R237: SAR r/m16, 1 (D1 /7). -/
def execSarRm16One (rm : RM16) (s : State) : Result := finish (shiftRm16 .sar rm 1 s)

/-- R230: ROL r/m8, CL (D2 /0). -/
def execRolRm8Cl (rm : RM8) (s : State) : Result := finish (shiftRm8 .rol rm (s.reg8 .cl) s)

/-- R231: ROR r/m8, CL (D2 /1). -/
def execRorRm8Cl (rm : RM8) (s : State) : Result := finish (shiftRm8 .ror rm (s.reg8 .cl) s)

/-- R232: RCL r/m8, CL (D2 /2). -/
def execRclRm8Cl (rm : RM8) (s : State) : Result := finish (shiftRm8 .rcl rm (s.reg8 .cl) s)

/-- R233: RCR r/m8, CL (D2 /3). -/
def execRcrRm8Cl (rm : RM8) (s : State) : Result := finish (shiftRm8 .rcr rm (s.reg8 .cl) s)

/-- R234: SHL r/m8, CL (D2 /4). -/
def execShlRm8Cl (rm : RM8) (s : State) : Result := finish (shiftRm8 .shl rm (s.reg8 .cl) s)

/-- R235: SHR r/m8, CL (D2 /5). -/
def execShrRm8Cl (rm : RM8) (s : State) : Result := finish (shiftRm8 .shr rm (s.reg8 .cl) s)

/-- R236: SAL r/m8, CL (D2 /6). -/
def execSalRm8Cl (rm : RM8) (s : State) : Result := finish (shiftRm8 .sal rm (s.reg8 .cl) s)

/-- R237: SAR r/m8, CL (D2 /7). -/
def execSarRm8Cl (rm : RM8) (s : State) : Result := finish (shiftRm8 .sar rm (s.reg8 .cl) s)

/-- R230: ROL r/m16, CL (D3 /0). -/
def execRolRm16Cl (rm : RM16) (s : State) : Result := finish (shiftRm16 .rol rm (s.reg8 .cl) s)

/-- R231: ROR r/m16, CL (D3 /1). -/
def execRorRm16Cl (rm : RM16) (s : State) : Result := finish (shiftRm16 .ror rm (s.reg8 .cl) s)

/-- R232: RCL r/m16, CL (D3 /2). -/
def execRclRm16Cl (rm : RM16) (s : State) : Result := finish (shiftRm16 .rcl rm (s.reg8 .cl) s)

/-- R233: RCR r/m16, CL (D3 /3). -/
def execRcrRm16Cl (rm : RM16) (s : State) : Result := finish (shiftRm16 .rcr rm (s.reg8 .cl) s)

/-- R234: SHL r/m16, CL (D3 /4). -/
def execShlRm16Cl (rm : RM16) (s : State) : Result := finish (shiftRm16 .shl rm (s.reg8 .cl) s)

/-- R235: SHR r/m16, CL (D3 /5). -/
def execShrRm16Cl (rm : RM16) (s : State) : Result := finish (shiftRm16 .shr rm (s.reg8 .cl) s)

/-- R236: SAL r/m16, CL (D3 /6). -/
def execSalRm16Cl (rm : RM16) (s : State) : Result := finish (shiftRm16 .sal rm (s.reg8 .cl) s)

/-- R237: SAR r/m16, CL (D3 /7). -/
def execSarRm16Cl (rm : RM16) (s : State) : Result := finish (shiftRm16 .sar rm (s.reg8 .cl) s)

end Sys2Proof.Machine
end

