-- ==== Sys2Proof/Machine/Stack.lean ====
section
/-! DEFINITION. PUSH and POP (spec/45_stack.md R270 to R279). No form writes a flag. -/

namespace Sys2Proof.Machine

/-- R273, R274: a word pushed. -/
def pushValue (v : Word) (s : State) : Except Fault State := s.push16 v

/-- R272, D25: the value PUSH stores for a word register. For SP it is the value before the decrement,
or, where the parameter `PUSH_SP_VALUE` says so, the decremented one. -/
def State.pushedReg (s : State) (r : Reg16) : Word :=
  if r = .sp ∧ s.cfg.pushSpOld = false then s.sp - 2 else s.reg16 r

/-- R272. -/
def pushReg16 (r : Reg16) (s : State) : Except Fault State := s.push16 (s.pushedReg r)

/-- R273: the operand is read before SP changes; a register operand is a second encoding of R272. -/
def pushRm (rm : RM16) (s : State) : Except Fault State :=
  match rm with
  | .reg r => pushReg16 r s
  | .mem _ => (s.readRM16 rm).bind fun v => s.push16 v

/-- R275: the increment first, then the register write. -/
def popReg16 (r : Reg16) (s : State) : Except Fault State :=
  s.pop16.map fun (v, t) => t.setReg16 r v

/-- R276, R277: popped through the old SS; writing SS sets INTDELAY. -/
def popSreg (r : SReg) (s : State) : Except Fault State :=
  s.pop16.map fun (v, t) => t.setSreg r v

/-- R279: the operand is located before the pop. -/
def popRm (rm : RM16) (s : State) : Except Fault State :=
  s.pop16.bind fun (v, t) => t.writeLoc16 (s.locate rm) v

/-- R274: PUSH ES (06). -/
def execPushEs (s : State) : Result := finish (pushValue (s.sreg .es) s)

/-- R276: POP ES (07). -/
def execPopEs (s : State) : Result := finish (popSreg .es s)

/-- R274: PUSH CS (0E). -/
def execPushCs (s : State) : Result := finish (pushValue (s.sreg .cs) s)

/-- R274: PUSH SS (16). -/
def execPushSs (s : State) : Result := finish (pushValue (s.sreg .ss) s)

/-- R277: POP SS (17). -/
def execPopSs (s : State) : Result := finish (popSreg .ss s)

/-- R274: PUSH DS (1E). -/
def execPushDs (s : State) : Result := finish (pushValue (s.sreg .ds) s)

/-- R276: POP DS (1F). -/
def execPopDs (s : State) : Result := finish (popSreg .ds s)

/-- R272: PUSH AX (50). -/
def execPushAx (s : State) : Result := finish (pushReg16 .ax s)

/-- R272: PUSH CX (51). -/
def execPushCx (s : State) : Result := finish (pushReg16 .cx s)

/-- R272: PUSH DX (52). -/
def execPushDx (s : State) : Result := finish (pushReg16 .dx s)

/-- R272: PUSH BX (53). -/
def execPushBx (s : State) : Result := finish (pushReg16 .bx s)

/-- R272: PUSH SP (54). -/
def execPushSp (s : State) : Result := finish (pushReg16 .sp s)

/-- R272: PUSH BP (55). -/
def execPushBp (s : State) : Result := finish (pushReg16 .bp s)

/-- R272: PUSH SI (56). -/
def execPushSi (s : State) : Result := finish (pushReg16 .si s)

/-- R272: PUSH DI (57). -/
def execPushDi (s : State) : Result := finish (pushReg16 .di s)

/-- R275: POP AX (58). -/
def execPopAx (s : State) : Result := finish (popReg16 .ax s)

/-- R275: POP CX (59). -/
def execPopCx (s : State) : Result := finish (popReg16 .cx s)

/-- R275: POP DX (5A). -/
def execPopDx (s : State) : Result := finish (popReg16 .dx s)

/-- R275: POP BX (5B). -/
def execPopBx (s : State) : Result := finish (popReg16 .bx s)

/-- R275: POP SP (5C). -/
def execPopSp (s : State) : Result := finish (popReg16 .sp s)

/-- R275: POP BP (5D). -/
def execPopBp (s : State) : Result := finish (popReg16 .bp s)

/-- R275: POP SI (5E). -/
def execPopSi (s : State) : Result := finish (popReg16 .si s)

/-- R275: POP DI (5F). -/
def execPopDi (s : State) : Result := finish (popReg16 .di s)

/-- R279: POP r/m16 (8F /0). -/
def execPopRm16 (rm : RM16) (s : State) : Result := finish (popRm rm s)

/-- R273: PUSH r/m16 (FF /6). -/
def execPushRm16 (rm : RM16) (s : State) : Result := finish (pushRm rm s)

end Sys2Proof.Machine
end

