-- ==== Sys2Proof/Machine/StringPrimitives.lean ====
section
/-! DEFINITION. MOVS, CMPS, STOS, LODS and SCAS (spec/44_string.md R250 to R257): one element per
instruction, source DS:SI, destination ES:DI. -/

namespace Sys2Proof.Machine

/-- R251 `Advance`: an index register moved by the element size `k`, down when DF is set. -/
def State.stepIndex (s : State) (x k : Word) : Word := if s.flag .df then x - k else x + k

/-- R251: SI advanced. -/
def State.advanceSi (s : State) (k : Word) : State := s.setReg16 .si (s.stepIndex s.si k)

/-- R251: DI advanced. -/
def State.advanceDi (s : State) (k : Word) : State := s.setReg16 .di (s.stepIndex s.di k)

/-- R252, the byte form. -/
def copyElement8 (s : State) : Except Fault State :=
  (s.memRead8 s.ds s.si).bind fun v =>
    (s.memWrite8 s.es s.di v).map fun t => (t.advanceSi 1).advanceDi 1

/-- R252, the word form. -/
def copyElement16 (s : State) : Except Fault State :=
  (s.memRead16 s.ds s.si).bind fun v =>
    (s.memWrite16 s.es s.di v).map fun t => (t.advanceSi 2).advanceDi 2

/-- R253, the byte form: source minus destination. -/
def compareElements8 (s : State) : Except Fault State :=
  (s.memRead8 s.ds s.si).bind fun a =>
    (s.memRead8 s.es s.di).map fun b =>
      ((s.withFlags (subFlags a b false s.flags).2).advanceSi 1).advanceDi 1

/-- R253, the word form. -/
def compareElements16 (s : State) : Except Fault State :=
  (s.memRead16 s.ds s.si).bind fun a =>
    (s.memRead16 s.es s.di).map fun b =>
      ((s.withFlags (subFlags a b false s.flags).2).advanceSi 2).advanceDi 2

/-- R254, the byte form. -/
def storeElement8 (s : State) : Except Fault State :=
  (s.memWrite8 s.es s.di (s.reg8 .al)).map fun t => t.advanceDi 1

/-- R254, the word form. -/
def storeElement16 (s : State) : Except Fault State :=
  (s.memWrite16 s.es s.di (s.reg16 .ax)).map fun t => t.advanceDi 2

/-- R255, the byte form. -/
def loadElement8 (s : State) : Except Fault State :=
  (s.memRead8 s.ds s.si).map fun v => (s.setReg8 .al v).advanceSi 1

/-- R255, the word form. -/
def loadElement16 (s : State) : Except Fault State :=
  (s.memRead16 s.ds s.si).map fun v => (s.setReg16 .ax v).advanceSi 2

/-- R256, the byte form: accumulator minus memory. -/
def scanElement8 (s : State) : Except Fault State :=
  (s.memRead8 s.es s.di).map fun b =>
    (s.withFlags (subFlags (s.reg8 .al) b false s.flags).2).advanceDi 1

/-- R256, the word form. -/
def scanElement16 (s : State) : Except Fault State :=
  (s.memRead16 s.es s.di).map fun b =>
    (s.withFlags (subFlags (s.reg16 .ax) b false s.flags).2).advanceDi 2

/-- R252: MOVSB implicit (A4). -/
def execMovsb (s : State) : Result := finish (copyElement8 s)

/-- R252: MOVSW implicit (A5). -/
def execMovsw (s : State) : Result := finish (copyElement16 s)

/-- R253: CMPSB implicit (A6). -/
def execCmpsb (s : State) : Result := finish (compareElements8 s)

/-- R253: CMPSW implicit (A7). -/
def execCmpsw (s : State) : Result := finish (compareElements16 s)

/-- R254: STOSB implicit (AA). -/
def execStosb (s : State) : Result := finish (storeElement8 s)

/-- R254: STOSW implicit (AB). -/
def execStosw (s : State) : Result := finish (storeElement16 s)

/-- R255: LODSB implicit (AC). -/
def execLodsb (s : State) : Result := finish (loadElement8 s)

/-- R255: LODSW implicit (AD). -/
def execLodsw (s : State) : Result := finish (loadElement16 s)

/-- R256: SCASB implicit (AE). -/
def execScasb (s : State) : Result := finish (scanElement8 s)

/-- R256: SCASW implicit (AF). -/
def execScasw (s : State) : Result := finish (scanElement16 s)

end Sys2Proof.Machine
end

