-- ==== Sys2Proof/Machine/System.lean ====
section
/-! DEFINITION. INT, HLT and the Interrupt Bridge (spec/47_system.md R340, R341; spec/60_exceptions.md R361
to R367). -/

namespace Sys2Proof.Machine

/-- R366: whether a byte is one of the printable ones. -/
def printable (c : Byte) : Bool := decide (0x20 ≤ c.toNat) && decide (c.toNat ≤ 0x7E)

/-- R366: the default output for a byte that is not printable. -/
def defaultControlOutput (c : Byte) : List Byte :=
  if c = 0x0A ∨ c = 0x0D ∨ c = 0x09 then [c]
  else if c = 0x08 then [0x08, 0x20, 0x08]
  else []

/-- R366 `CONSOLE_FILTER`: printable bytes pass; for the others the configuration may change the
default. -/
def consoleFilter (cfg : Config) (c : Byte) : List Byte :=
  if printable c then [c]
  else (cfg.filterChanges.lookup c).getD (defaultControlOutput c)

/-- R365: the loop, with at most `n` bytes left to examine from offset `off` of DS: what it outputs,
and whether the bound was reached. -/
def State.stringOutput (s : State) : Nat → Word → Except Fault (List Byte × Bool)
  | 0, _ => .ok ([], true)
  | n + 1, off =>
    (s.memRead8 s.ds off).bind fun c =>
      if c = stringEnd then .ok ([], false)
      else (s.stringOutput n (off + 1)).map fun (out, tooLong) => (consoleFilter s.cfg c ++ out, tooLong)

/-- R365: the string at DS:DX is output; reaching the bound is logged. -/
def printString (s : State) : Except Fault State :=
  (s.stringOutput s.cfg.strMax s.dx).map fun (out, tooLong) =>
    if tooLong then (s.emitConout out).emitDiag .stringTooLong else s.emitConout out

/-- R362 to R365, R367: the service AH selects. -/
def dosService (s : State) : Except Fault State :=
  if s.reg8 .ah = fnExit then .ok (raiseTerminate (s.reg8 .al) s)
  else if s.reg8 .ah = fnString then printString s
  else if s.reg8 .ah = fnChar then .ok (s.emitConout [s.reg8 .dl])
  else .ok (s.emitDiag (.unsupportedFunction (s.reg8 .ah)))

/-- R361, R367: interrupt 0x21 is served, every other is logged and ignored. -/
def bridge (n : Byte) (s : State) : Except Fault State :=
  if n = dosVector then dosService s else .ok (s.emitDiag (.unsupportedInterrupt n))

/-- R340: INT vec8 (CD). -/
def execInt (vec : Byte) (s : State) : Result := finish (bridge vec s)

/-- R341: HLT (F4). -/
def execHlt (s : State) : Result := .next (raiseTerminate 0 s)

end Sys2Proof.Machine
end

