-- ==== Sys2Proof/Machine/Unrecognized.lean ====
section
/-! DEFINITION. The encodings outside the recognized set (spec/48_unnamed_opcodes.md R350, R351): each is
logged and stops the machine. IP is then a free value between 1 and 4 bytes past the start of the
instruction (D32). -/

namespace Sys2Proof.Machine

/-- R350, D32: an unrecognized first byte. IP is already past it. -/
def unrecognizedOpcode (op : Byte) (s : State) : State := raiseUnsupported op 1 s

/-- R350, R115: an unrecognized sub-operation. IP is already past the opcode byte and the ModR/M byte. -/
def unrecognizedGroup (op : Byte) (s : State) : State := raiseUnsupported op 2 s

/-- R350: POP CS (0F). -/
def execTierXPopCs (s : State) : Result := .next (unrecognizedOpcode 0x0F s)

/-- R350: ES: prefix (26). -/
def execTierXEsPrefix (s : State) : Result := .next (unrecognizedOpcode 0x26 s)

/-- R350: CS: prefix (2E). -/
def execTierXCsPrefix (s : State) : Result := .next (unrecognizedOpcode 0x2E s)

/-- R350: SS: prefix (36). -/
def execTierXSsPrefix (s : State) : Result := .next (unrecognizedOpcode 0x36 s)

/-- R350: DS: prefix (3E). -/
def execTierXDsPrefix (s : State) : Result := .next (unrecognizedOpcode 0x3E s)

/-- R350: PUSHA (60). -/
def execTierXPusha (s : State) : Result := .next (unrecognizedOpcode 0x60 s)

/-- R350: POPA (61). -/
def execTierXPopa (s : State) : Result := .next (unrecognizedOpcode 0x61 s)

/-- R350: BOUND (62). -/
def execTierXBound (s : State) : Result := .next (unrecognizedOpcode 0x62 s)

/-- R350: undefined 63 (63). -/
def execTierXUndefined63 (s : State) : Result := .next (unrecognizedOpcode 0x63 s)

/-- R350: undefined 64 (64). -/
def execTierXUndefined64 (s : State) : Result := .next (unrecognizedOpcode 0x64 s)

/-- R350: undefined 65 (65). -/
def execTierXUndefined65 (s : State) : Result := .next (unrecognizedOpcode 0x65 s)

/-- R350: undefined 66 (66). -/
def execTierXUndefined66 (s : State) : Result := .next (unrecognizedOpcode 0x66 s)

/-- R350: undefined 67 (67). -/
def execTierXUndefined67 (s : State) : Result := .next (unrecognizedOpcode 0x67 s)

/-- R350: PUSH imm16 (68). -/
def execTierXPushImm16 (s : State) : Result := .next (unrecognizedOpcode 0x68 s)

/-- R350: IMUL r16,r/m16,imm16 (69). -/
def execTierXImulR16Rm16Imm16 (s : State) : Result := .next (unrecognizedOpcode 0x69 s)

/-- R350: PUSH imm8 (6A). -/
def execTierXPushImm8 (s : State) : Result := .next (unrecognizedOpcode 0x6A s)

/-- R350: IMUL r16,r/m16,imm8 (6B). -/
def execTierXImulR16Rm16Imm8 (s : State) : Result := .next (unrecognizedOpcode 0x6B s)

/-- R350: INSB (6C). -/
def execTierXInsb (s : State) : Result := .next (unrecognizedOpcode 0x6C s)

/-- R350: INSW (6D). -/
def execTierXInsw (s : State) : Result := .next (unrecognizedOpcode 0x6D s)

/-- R350: OUTSB (6E). -/
def execTierXOutsb (s : State) : Result := .next (unrecognizedOpcode 0x6E s)

/-- R350: OUTSW (6F). -/
def execTierXOutsw (s : State) : Result := .next (unrecognizedOpcode 0x6F s)

/-- R350: group 1 alias of 80 (82). -/
def execTierXGroup1Alias82 (s : State) : Result := .next (unrecognizedOpcode 0x82 s)

/-- R350: TEST r/m8,r8 (84). -/
def execTierXTestRm8R8 (s : State) : Result := .next (unrecognizedOpcode 0x84 s)

/-- R350: TEST r/m16,r16 (85). -/
def execTierXTestRm16R16 (s : State) : Result := .next (unrecognizedOpcode 0x85 s)

/-- R350: XCHG r/m8,r8 (86). -/
def execTierXXchgRm8R8 (s : State) : Result := .next (unrecognizedOpcode 0x86 s)

/-- R350: XCHG r/m16,r16 (87). -/
def execTierXXchgRm16R16 (s : State) : Result := .next (unrecognizedOpcode 0x87 s)

/-- R350: MOV r/m16, nonexistent Sreg (8C /4). -/
def execTierXMovRm16Sreg4 (s : State) : Result := .next (unrecognizedGroup 0x8C s)

/-- R350: MOV r/m16, nonexistent Sreg (8C /5). -/
def execTierXMovRm16Sreg5 (s : State) : Result := .next (unrecognizedGroup 0x8C s)

/-- R350: MOV r/m16, nonexistent Sreg (8C /6). -/
def execTierXMovRm16Sreg6 (s : State) : Result := .next (unrecognizedGroup 0x8C s)

/-- R350: MOV r/m16, nonexistent Sreg (8C /7). -/
def execTierXMovRm16Sreg7 (s : State) : Result := .next (unrecognizedGroup 0x8C s)

/-- R350: LEA (8D). -/
def execTierXLea (s : State) : Result := .next (unrecognizedOpcode 0x8D s)

/-- R350: MOV CS, r/m16 (8E /1). -/
def execTierXMovCsRm16 (s : State) : Result := .next (unrecognizedGroup 0x8E s)

/-- R350: MOV nonexistent Sreg, r/m16 (8E /4). -/
def execTierXMovSreg4Rm16 (s : State) : Result := .next (unrecognizedGroup 0x8E s)

/-- R350: MOV nonexistent Sreg, r/m16 (8E /5). -/
def execTierXMovSreg5Rm16 (s : State) : Result := .next (unrecognizedGroup 0x8E s)

/-- R350: MOV nonexistent Sreg, r/m16 (8E /6). -/
def execTierXMovSreg6Rm16 (s : State) : Result := .next (unrecognizedGroup 0x8E s)

/-- R350: MOV nonexistent Sreg, r/m16 (8E /7). -/
def execTierXMovSreg7Rm16 (s : State) : Result := .next (unrecognizedGroup 0x8E s)

/-- R350: undefined 8F /1 (8F /1). -/
def execTierXUndefined8F1 (s : State) : Result := .next (unrecognizedGroup 0x8F s)

/-- R350: undefined 8F /2 (8F /2). -/
def execTierXUndefined8F2 (s : State) : Result := .next (unrecognizedGroup 0x8F s)

/-- R350: undefined 8F /3 (8F /3). -/
def execTierXUndefined8F3 (s : State) : Result := .next (unrecognizedGroup 0x8F s)

/-- R350: undefined 8F /4 (8F /4). -/
def execTierXUndefined8F4 (s : State) : Result := .next (unrecognizedGroup 0x8F s)

/-- R350: undefined 8F /5 (8F /5). -/
def execTierXUndefined8F5 (s : State) : Result := .next (unrecognizedGroup 0x8F s)

/-- R350: undefined 8F /6 (8F /6). -/
def execTierXUndefined8F6 (s : State) : Result := .next (unrecognizedGroup 0x8F s)

/-- R350: undefined 8F /7 (8F /7). -/
def execTierXUndefined8F7 (s : State) : Result := .next (unrecognizedGroup 0x8F s)

/-- R350: NOP (90). -/
def execTierXNop (s : State) : Result := .next (unrecognizedOpcode 0x90 s)

/-- R350: XCHG AX,CX (91). -/
def execTierXXchgAxCx (s : State) : Result := .next (unrecognizedOpcode 0x91 s)

/-- R350: XCHG AX,DX (92). -/
def execTierXXchgAxDx (s : State) : Result := .next (unrecognizedOpcode 0x92 s)

/-- R350: XCHG AX,BX (93). -/
def execTierXXchgAxBx (s : State) : Result := .next (unrecognizedOpcode 0x93 s)

/-- R350: XCHG AX,SP (94). -/
def execTierXXchgAxSp (s : State) : Result := .next (unrecognizedOpcode 0x94 s)

/-- R350: XCHG AX,BP (95). -/
def execTierXXchgAxBp (s : State) : Result := .next (unrecognizedOpcode 0x95 s)

/-- R350: XCHG AX,SI (96). -/
def execTierXXchgAxSi (s : State) : Result := .next (unrecognizedOpcode 0x96 s)

/-- R350: XCHG AX,DI (97). -/
def execTierXXchgAxDi (s : State) : Result := .next (unrecognizedOpcode 0x97 s)

/-- R350: CBW (98). -/
def execTierXCbw (s : State) : Result := .next (unrecognizedOpcode 0x98 s)

/-- R350: CWD (99). -/
def execTierXCwd (s : State) : Result := .next (unrecognizedOpcode 0x99 s)

/-- R350: WAIT (9B). -/
def execTierXWait (s : State) : Result := .next (unrecognizedOpcode 0x9B s)

/-- R350: PUSHF (9C). -/
def execTierXPushf (s : State) : Result := .next (unrecognizedOpcode 0x9C s)

/-- R350: POPF (9D). -/
def execTierXPopf (s : State) : Result := .next (unrecognizedOpcode 0x9D s)

/-- R350: SAHF (9E). -/
def execTierXSahf (s : State) : Result := .next (unrecognizedOpcode 0x9E s)

/-- R350: LAHF (9F). -/
def execTierXLahf (s : State) : Result := .next (unrecognizedOpcode 0x9F s)

/-- R350: TEST AL,imm8 (A8). -/
def execTierXTestAlImm8 (s : State) : Result := .next (unrecognizedOpcode 0xA8 s)

/-- R350: TEST AX,imm16 (A9). -/
def execTierXTestAxImm16 (s : State) : Result := .next (unrecognizedOpcode 0xA9 s)

/-- R350: LES (C4). -/
def execTierXLes (s : State) : Result := .next (unrecognizedOpcode 0xC4 s)

/-- R350: LDS (C5). -/
def execTierXLds (s : State) : Result := .next (unrecognizedOpcode 0xC5 s)

/-- R350: undefined C6 /1 (C6 /1). -/
def execTierXUndefinedC61 (s : State) : Result := .next (unrecognizedGroup 0xC6 s)

/-- R350: undefined C6 /2 (C6 /2). -/
def execTierXUndefinedC62 (s : State) : Result := .next (unrecognizedGroup 0xC6 s)

/-- R350: undefined C6 /3 (C6 /3). -/
def execTierXUndefinedC63 (s : State) : Result := .next (unrecognizedGroup 0xC6 s)

/-- R350: undefined C6 /4 (C6 /4). -/
def execTierXUndefinedC64 (s : State) : Result := .next (unrecognizedGroup 0xC6 s)

/-- R350: undefined C6 /5 (C6 /5). -/
def execTierXUndefinedC65 (s : State) : Result := .next (unrecognizedGroup 0xC6 s)

/-- R350: undefined C6 /6 (C6 /6). -/
def execTierXUndefinedC66 (s : State) : Result := .next (unrecognizedGroup 0xC6 s)

/-- R350: undefined C6 /7 (C6 /7). -/
def execTierXUndefinedC67 (s : State) : Result := .next (unrecognizedGroup 0xC6 s)

/-- R350: undefined C7 /1 (C7 /1). -/
def execTierXUndefinedC71 (s : State) : Result := .next (unrecognizedGroup 0xC7 s)

/-- R350: undefined C7 /2 (C7 /2). -/
def execTierXUndefinedC72 (s : State) : Result := .next (unrecognizedGroup 0xC7 s)

/-- R350: undefined C7 /3 (C7 /3). -/
def execTierXUndefinedC73 (s : State) : Result := .next (unrecognizedGroup 0xC7 s)

/-- R350: undefined C7 /4 (C7 /4). -/
def execTierXUndefinedC74 (s : State) : Result := .next (unrecognizedGroup 0xC7 s)

/-- R350: undefined C7 /5 (C7 /5). -/
def execTierXUndefinedC75 (s : State) : Result := .next (unrecognizedGroup 0xC7 s)

/-- R350: undefined C7 /6 (C7 /6). -/
def execTierXUndefinedC76 (s : State) : Result := .next (unrecognizedGroup 0xC7 s)

/-- R350: undefined C7 /7 (C7 /7). -/
def execTierXUndefinedC77 (s : State) : Result := .next (unrecognizedGroup 0xC7 s)

/-- R350: ENTER (C8). -/
def execTierXEnter (s : State) : Result := .next (unrecognizedOpcode 0xC8 s)

/-- R350: LEAVE (C9). -/
def execTierXLeave (s : State) : Result := .next (unrecognizedOpcode 0xC9 s)

/-- R350: INT 3 (CC). -/
def execTierXInt3 (s : State) : Result := .next (unrecognizedOpcode 0xCC s)

/-- R350: INTO (CE). -/
def execTierXInto (s : State) : Result := .next (unrecognizedOpcode 0xCE s)

/-- R350: IRET (CF). -/
def execTierXIret (s : State) : Result := .next (unrecognizedOpcode 0xCF s)

/-- R350: SALC (D6). -/
def execTierXSalc (s : State) : Result := .next (unrecognizedOpcode 0xD6 s)

/-- R350: XLAT (D7). -/
def execTierXXlat (s : State) : Result := .next (unrecognizedOpcode 0xD7 s)

/-- R350: ESC 0 (D8). -/
def execTierXEsc0 (s : State) : Result := .next (unrecognizedOpcode 0xD8 s)

/-- R350: ESC 1 (D9). -/
def execTierXEsc1 (s : State) : Result := .next (unrecognizedOpcode 0xD9 s)

/-- R350: ESC 2 (DA). -/
def execTierXEsc2 (s : State) : Result := .next (unrecognizedOpcode 0xDA s)

/-- R350: ESC 3 (DB). -/
def execTierXEsc3 (s : State) : Result := .next (unrecognizedOpcode 0xDB s)

/-- R350: ESC 4 (DC). -/
def execTierXEsc4 (s : State) : Result := .next (unrecognizedOpcode 0xDC s)

/-- R350: ESC 5 (DD). -/
def execTierXEsc5 (s : State) : Result := .next (unrecognizedOpcode 0xDD s)

/-- R350: ESC 6 (DE). -/
def execTierXEsc6 (s : State) : Result := .next (unrecognizedOpcode 0xDE s)

/-- R350: ESC 7 (DF). -/
def execTierXEsc7 (s : State) : Result := .next (unrecognizedOpcode 0xDF s)

/-- R350: IN AL,imm8 (E4). -/
def execTierXInAlImm8 (s : State) : Result := .next (unrecognizedOpcode 0xE4 s)

/-- R350: IN AX,imm8 (E5). -/
def execTierXInAxImm8 (s : State) : Result := .next (unrecognizedOpcode 0xE5 s)

/-- R350: OUT imm8,AL (E6). -/
def execTierXOutImm8Al (s : State) : Result := .next (unrecognizedOpcode 0xE6 s)

/-- R350: OUT imm8,AX (E7). -/
def execTierXOutImm8Ax (s : State) : Result := .next (unrecognizedOpcode 0xE7 s)

/-- R350: IN AL,DX (EC). -/
def execTierXInAlDx (s : State) : Result := .next (unrecognizedOpcode 0xEC s)

/-- R350: IN AX,DX (ED). -/
def execTierXInAxDx (s : State) : Result := .next (unrecognizedOpcode 0xED s)

/-- R350: OUT DX,AL (EE). -/
def execTierXOutDxAl (s : State) : Result := .next (unrecognizedOpcode 0xEE s)

/-- R350: OUT DX,AX (EF). -/
def execTierXOutDxAx (s : State) : Result := .next (unrecognizedOpcode 0xEF s)

/-- R350: LOCK prefix (F0). -/
def execTierXLockPrefix (s : State) : Result := .next (unrecognizedOpcode 0xF0 s)

/-- R350: undefined F1 (F1). -/
def execTierXUndefinedF1 (s : State) : Result := .next (unrecognizedOpcode 0xF1 s)

/-- R350: REPNE prefix (F2). -/
def execTierXRepnePrefix (s : State) : Result := .next (unrecognizedOpcode 0xF2 s)

/-- R350: REP/REPE prefix (F3). -/
def execTierXRepRepePrefix (s : State) : Result := .next (unrecognizedOpcode 0xF3 s)

/-- R350: CMC (F5). -/
def execTierXCmc (s : State) : Result := .next (unrecognizedOpcode 0xF5 s)

/-- R350: TEST r/m8 (F6 /0). -/
def execTierXTestRm8 (s : State) : Result := .next (unrecognizedGroup 0xF6 s)

/-- R350: TEST (alias) r/m8 (F6 /1). -/
def execTierXTestAliasRm8 (s : State) : Result := .next (unrecognizedGroup 0xF6 s)

/-- R350: NOT r/m8 (F6 /2). -/
def execTierXNotRm8 (s : State) : Result := .next (unrecognizedGroup 0xF6 s)

/-- R350: NEG r/m8 (F6 /3). -/
def execTierXNegRm8 (s : State) : Result := .next (unrecognizedGroup 0xF6 s)

/-- R350: MUL r/m8 (F6 /4). -/
def execTierXMulRm8 (s : State) : Result := .next (unrecognizedGroup 0xF6 s)

/-- R350: IMUL r/m8 (F6 /5). -/
def execTierXImulRm8 (s : State) : Result := .next (unrecognizedGroup 0xF6 s)

/-- R350: DIV r/m8 (F6 /6). -/
def execTierXDivRm8 (s : State) : Result := .next (unrecognizedGroup 0xF6 s)

/-- R350: IDIV r/m8 (F6 /7). -/
def execTierXIdivRm8 (s : State) : Result := .next (unrecognizedGroup 0xF6 s)

/-- R350: TEST r/m16 (F7 /0). -/
def execTierXTestRm16 (s : State) : Result := .next (unrecognizedGroup 0xF7 s)

/-- R350: TEST (alias) r/m16 (F7 /1). -/
def execTierXTestAliasRm16 (s : State) : Result := .next (unrecognizedGroup 0xF7 s)

/-- R350: NOT r/m16 (F7 /2). -/
def execTierXNotRm16 (s : State) : Result := .next (unrecognizedGroup 0xF7 s)

/-- R350: NEG r/m16 (F7 /3). -/
def execTierXNegRm16 (s : State) : Result := .next (unrecognizedGroup 0xF7 s)

/-- R350: MUL r/m16 (F7 /4). -/
def execTierXMulRm16 (s : State) : Result := .next (unrecognizedGroup 0xF7 s)

/-- R350: IMUL r/m16 (F7 /5). -/
def execTierXImulRm16 (s : State) : Result := .next (unrecognizedGroup 0xF7 s)

/-- R350: DIV r/m16 (F7 /6). -/
def execTierXDivRm16 (s : State) : Result := .next (unrecognizedGroup 0xF7 s)

/-- R350: IDIV r/m16 (F7 /7). -/
def execTierXIdivRm16 (s : State) : Result := .next (unrecognizedGroup 0xF7 s)

/-- R350: CLC (F8). -/
def execTierXClc (s : State) : Result := .next (unrecognizedOpcode 0xF8 s)

/-- R350: STC (F9). -/
def execTierXStc (s : State) : Result := .next (unrecognizedOpcode 0xF9 s)

/-- R350: CLI (FA). -/
def execTierXCli (s : State) : Result := .next (unrecognizedOpcode 0xFA s)

/-- R350: STI (FB). -/
def execTierXSti (s : State) : Result := .next (unrecognizedOpcode 0xFB s)

/-- R350: CLD (FC). -/
def execTierXCld (s : State) : Result := .next (unrecognizedOpcode 0xFC s)

/-- R350: STD (FD). -/
def execTierXStd (s : State) : Result := .next (unrecognizedOpcode 0xFD s)

/-- R350: undefined FE /2 (FE /2). -/
def execTierXUndefinedFE2 (s : State) : Result := .next (unrecognizedGroup 0xFE s)

/-- R350: undefined FE /3 (FE /3). -/
def execTierXUndefinedFE3 (s : State) : Result := .next (unrecognizedGroup 0xFE s)

/-- R350: undefined FE /4 (FE /4). -/
def execTierXUndefinedFE4 (s : State) : Result := .next (unrecognizedGroup 0xFE s)

/-- R350: undefined FE /5 (FE /5). -/
def execTierXUndefinedFE5 (s : State) : Result := .next (unrecognizedGroup 0xFE s)

/-- R350: undefined FE /6 (FE /6). -/
def execTierXUndefinedFE6 (s : State) : Result := .next (unrecognizedGroup 0xFE s)

/-- R350: undefined FE /7 (FE /7). -/
def execTierXUndefinedFE7 (s : State) : Result := .next (unrecognizedGroup 0xFE s)

/-- R350: CALL r/m16 (FF /2). -/
def execTierXCallRm16 (s : State) : Result := .next (unrecognizedGroup 0xFF s)

/-- R350: CALL m16:16 (FF /3). -/
def execTierXCallM16m16 (s : State) : Result := .next (unrecognizedGroup 0xFF s)

/-- R350: JMP r/m16 (FF /4). -/
def execTierXJmpRm16 (s : State) : Result := .next (unrecognizedGroup 0xFF s)

/-- R350: JMP m16:16 (FF /5). -/
def execTierXJmpM16m16 (s : State) : Result := .next (unrecognizedGroup 0xFF s)

/-- R350: undefined FF /7 (FF /7). -/
def execTierXUndefinedFF7 (s : State) : Result := .next (unrecognizedGroup 0xFF s)

end Sys2Proof.Machine
end

