-- ==== Sys2Proof/Machine/Dispatch.lean ====
section
/-! DEFINITION. One arm for each instruction, each one call of that instruction's meaning
(spec/47_system.md R342, Executing). -/

namespace Sys2Proof.Machine

/-- R342: the handler of an instruction. IP already points past every byte of it (R28). -/
def exec (i : Instr) (s : State) : Host.Outcome State Fault Refusal :=
  match i with
  -- ALU/Flags Engine
  | .addRm8R8 rm r => Sys2Proof.Machine.execAddRm8R8 rm r s
  | .addRm16R16 rm r => Sys2Proof.Machine.execAddRm16R16 rm r s
  | .addR8Rm8 rm r => Sys2Proof.Machine.execAddR8Rm8 rm r s
  | .addR16Rm16 rm r => Sys2Proof.Machine.execAddR16Rm16 rm r s
  | .addAlImm8 imm => Sys2Proof.Machine.execAddAlImm8 imm s
  | .addAxImm16 imm => Sys2Proof.Machine.execAddAxImm16 imm s
  | .orRm8R8 rm r => Sys2Proof.Machine.execOrRm8R8 rm r s
  | .orRm16R16 rm r => Sys2Proof.Machine.execOrRm16R16 rm r s
  | .orR8Rm8 rm r => Sys2Proof.Machine.execOrR8Rm8 rm r s
  | .orR16Rm16 rm r => Sys2Proof.Machine.execOrR16Rm16 rm r s
  | .orAlImm8 imm => Sys2Proof.Machine.execOrAlImm8 imm s
  | .orAxImm16 imm => Sys2Proof.Machine.execOrAxImm16 imm s
  | .adcRm8R8 rm r => Sys2Proof.Machine.execAdcRm8R8 rm r s
  | .adcRm16R16 rm r => Sys2Proof.Machine.execAdcRm16R16 rm r s
  | .adcR8Rm8 rm r => Sys2Proof.Machine.execAdcR8Rm8 rm r s
  | .adcR16Rm16 rm r => Sys2Proof.Machine.execAdcR16Rm16 rm r s
  | .adcAlImm8 imm => Sys2Proof.Machine.execAdcAlImm8 imm s
  | .adcAxImm16 imm => Sys2Proof.Machine.execAdcAxImm16 imm s
  | .sbbRm8R8 rm r => Sys2Proof.Machine.execSbbRm8R8 rm r s
  | .sbbRm16R16 rm r => Sys2Proof.Machine.execSbbRm16R16 rm r s
  | .sbbR8Rm8 rm r => Sys2Proof.Machine.execSbbR8Rm8 rm r s
  | .sbbR16Rm16 rm r => Sys2Proof.Machine.execSbbR16Rm16 rm r s
  | .sbbAlImm8 imm => Sys2Proof.Machine.execSbbAlImm8 imm s
  | .sbbAxImm16 imm => Sys2Proof.Machine.execSbbAxImm16 imm s
  | .andRm8R8 rm r => Sys2Proof.Machine.execAndRm8R8 rm r s
  | .andRm16R16 rm r => Sys2Proof.Machine.execAndRm16R16 rm r s
  | .andR8Rm8 rm r => Sys2Proof.Machine.execAndR8Rm8 rm r s
  | .andR16Rm16 rm r => Sys2Proof.Machine.execAndR16Rm16 rm r s
  | .andAlImm8 imm => Sys2Proof.Machine.execAndAlImm8 imm s
  | .andAxImm16 imm => Sys2Proof.Machine.execAndAxImm16 imm s
  | .subRm8R8 rm r => Sys2Proof.Machine.execSubRm8R8 rm r s
  | .subRm16R16 rm r => Sys2Proof.Machine.execSubRm16R16 rm r s
  | .subR8Rm8 rm r => Sys2Proof.Machine.execSubR8Rm8 rm r s
  | .subR16Rm16 rm r => Sys2Proof.Machine.execSubR16Rm16 rm r s
  | .subAlImm8 imm => Sys2Proof.Machine.execSubAlImm8 imm s
  | .subAxImm16 imm => Sys2Proof.Machine.execSubAxImm16 imm s
  | .xorRm8R8 rm r => Sys2Proof.Machine.execXorRm8R8 rm r s
  | .xorRm16R16 rm r => Sys2Proof.Machine.execXorRm16R16 rm r s
  | .xorR8Rm8 rm r => Sys2Proof.Machine.execXorR8Rm8 rm r s
  | .xorR16Rm16 rm r => Sys2Proof.Machine.execXorR16Rm16 rm r s
  | .xorAlImm8 imm => Sys2Proof.Machine.execXorAlImm8 imm s
  | .xorAxImm16 imm => Sys2Proof.Machine.execXorAxImm16 imm s
  | .cmpRm8R8 rm r => Sys2Proof.Machine.execCmpRm8R8 rm r s
  | .cmpRm16R16 rm r => Sys2Proof.Machine.execCmpRm16R16 rm r s
  | .cmpR8Rm8 rm r => Sys2Proof.Machine.execCmpR8Rm8 rm r s
  | .cmpR16Rm16 rm r => Sys2Proof.Machine.execCmpR16Rm16 rm r s
  | .cmpAlImm8 imm => Sys2Proof.Machine.execCmpAlImm8 imm s
  | .cmpAxImm16 imm => Sys2Proof.Machine.execCmpAxImm16 imm s
  | .incAx => Sys2Proof.Machine.execIncAx s
  | .incCx => Sys2Proof.Machine.execIncCx s
  | .incDx => Sys2Proof.Machine.execIncDx s
  | .incBx => Sys2Proof.Machine.execIncBx s
  | .incSp => Sys2Proof.Machine.execIncSp s
  | .incBp => Sys2Proof.Machine.execIncBp s
  | .incSi => Sys2Proof.Machine.execIncSi s
  | .incDi => Sys2Proof.Machine.execIncDi s
  | .decAx => Sys2Proof.Machine.execDecAx s
  | .decCx => Sys2Proof.Machine.execDecCx s
  | .decDx => Sys2Proof.Machine.execDecDx s
  | .decBx => Sys2Proof.Machine.execDecBx s
  | .decSp => Sys2Proof.Machine.execDecSp s
  | .decBp => Sys2Proof.Machine.execDecBp s
  | .decSi => Sys2Proof.Machine.execDecSi s
  | .decDi => Sys2Proof.Machine.execDecDi s
  | .addRm8Imm8 rm imm => Sys2Proof.Machine.execAddRm8Imm8 rm imm s
  | .orRm8Imm8 rm imm => Sys2Proof.Machine.execOrRm8Imm8 rm imm s
  | .adcRm8Imm8 rm imm => Sys2Proof.Machine.execAdcRm8Imm8 rm imm s
  | .sbbRm8Imm8 rm imm => Sys2Proof.Machine.execSbbRm8Imm8 rm imm s
  | .andRm8Imm8 rm imm => Sys2Proof.Machine.execAndRm8Imm8 rm imm s
  | .subRm8Imm8 rm imm => Sys2Proof.Machine.execSubRm8Imm8 rm imm s
  | .xorRm8Imm8 rm imm => Sys2Proof.Machine.execXorRm8Imm8 rm imm s
  | .cmpRm8Imm8 rm imm => Sys2Proof.Machine.execCmpRm8Imm8 rm imm s
  | .addRm16Imm16 rm imm => Sys2Proof.Machine.execAddRm16Imm16 rm imm s
  | .orRm16Imm16 rm imm => Sys2Proof.Machine.execOrRm16Imm16 rm imm s
  | .adcRm16Imm16 rm imm => Sys2Proof.Machine.execAdcRm16Imm16 rm imm s
  | .sbbRm16Imm16 rm imm => Sys2Proof.Machine.execSbbRm16Imm16 rm imm s
  | .andRm16Imm16 rm imm => Sys2Proof.Machine.execAndRm16Imm16 rm imm s
  | .subRm16Imm16 rm imm => Sys2Proof.Machine.execSubRm16Imm16 rm imm s
  | .xorRm16Imm16 rm imm => Sys2Proof.Machine.execXorRm16Imm16 rm imm s
  | .cmpRm16Imm16 rm imm => Sys2Proof.Machine.execCmpRm16Imm16 rm imm s
  | .addRm16Simm8 rm imm => Sys2Proof.Machine.execAddRm16Simm8 rm imm s
  | .orRm16Simm8 rm imm => Sys2Proof.Machine.execOrRm16Simm8 rm imm s
  | .adcRm16Simm8 rm imm => Sys2Proof.Machine.execAdcRm16Simm8 rm imm s
  | .sbbRm16Simm8 rm imm => Sys2Proof.Machine.execSbbRm16Simm8 rm imm s
  | .andRm16Simm8 rm imm => Sys2Proof.Machine.execAndRm16Simm8 rm imm s
  | .subRm16Simm8 rm imm => Sys2Proof.Machine.execSubRm16Simm8 rm imm s
  | .xorRm16Simm8 rm imm => Sys2Proof.Machine.execXorRm16Simm8 rm imm s
  | .cmpRm16Simm8 rm imm => Sys2Proof.Machine.execCmpRm16Simm8 rm imm s
  | .incRm8 rm => Sys2Proof.Machine.execIncRm8 rm s
  | .decRm8 rm => Sys2Proof.Machine.execDecRm8 rm s
  | .incRm16 rm => Sys2Proof.Machine.execIncRm16 rm s
  | .decRm16 rm => Sys2Proof.Machine.execDecRm16 rm s
  -- data movement
  | .movRm8R8 rm r => Sys2Proof.Machine.execMovRm8R8 rm r s
  | .movRm16R16 rm r => Sys2Proof.Machine.execMovRm16R16 rm r s
  | .movR8Rm8 rm r => Sys2Proof.Machine.execMovR8Rm8 rm r s
  | .movR16Rm16 rm r => Sys2Proof.Machine.execMovR16Rm16 rm r s
  | .movRm16Es rm => Sys2Proof.Machine.execMovRm16Es rm s
  | .movRm16Cs rm => Sys2Proof.Machine.execMovRm16Cs rm s
  | .movRm16Ss rm => Sys2Proof.Machine.execMovRm16Ss rm s
  | .movRm16Ds rm => Sys2Proof.Machine.execMovRm16Ds rm s
  | .movEsRm16 rm => Sys2Proof.Machine.execMovEsRm16 rm s
  | .movSsRm16 rm => Sys2Proof.Machine.execMovSsRm16 rm s
  | .movDsRm16 rm => Sys2Proof.Machine.execMovDsRm16 rm s
  | .movAlMoffs off => Sys2Proof.Machine.execMovAlMoffs off s
  | .movAxMoffs off => Sys2Proof.Machine.execMovAxMoffs off s
  | .movMoffsAl off => Sys2Proof.Machine.execMovMoffsAl off s
  | .movMoffsAx off => Sys2Proof.Machine.execMovMoffsAx off s
  | .movAlImm8 imm => Sys2Proof.Machine.execMovAlImm8 imm s
  | .movClImm8 imm => Sys2Proof.Machine.execMovClImm8 imm s
  | .movDlImm8 imm => Sys2Proof.Machine.execMovDlImm8 imm s
  | .movBlImm8 imm => Sys2Proof.Machine.execMovBlImm8 imm s
  | .movAhImm8 imm => Sys2Proof.Machine.execMovAhImm8 imm s
  | .movChImm8 imm => Sys2Proof.Machine.execMovChImm8 imm s
  | .movDhImm8 imm => Sys2Proof.Machine.execMovDhImm8 imm s
  | .movBhImm8 imm => Sys2Proof.Machine.execMovBhImm8 imm s
  | .movAxImm16 imm => Sys2Proof.Machine.execMovAxImm16 imm s
  | .movCxImm16 imm => Sys2Proof.Machine.execMovCxImm16 imm s
  | .movDxImm16 imm => Sys2Proof.Machine.execMovDxImm16 imm s
  | .movBxImm16 imm => Sys2Proof.Machine.execMovBxImm16 imm s
  | .movSpImm16 imm => Sys2Proof.Machine.execMovSpImm16 imm s
  | .movBpImm16 imm => Sys2Proof.Machine.execMovBpImm16 imm s
  | .movSiImm16 imm => Sys2Proof.Machine.execMovSiImm16 imm s
  | .movDiImm16 imm => Sys2Proof.Machine.execMovDiImm16 imm s
  | .movRm8Imm8 rm imm => Sys2Proof.Machine.execMovRm8Imm8 rm imm s
  | .movRm16Imm16 rm imm => Sys2Proof.Machine.execMovRm16Imm16 rm imm s
  -- BCD adjustment
  | .daa => Sys2Proof.Machine.execDaa s
  | .das => Sys2Proof.Machine.execDas s
  | .aaa => Sys2Proof.Machine.execAaa s
  | .aas => Sys2Proof.Machine.execAas s
  | .aam base => Sys2Proof.Machine.execAam base s
  | .aad base => Sys2Proof.Machine.execAad base s
  -- Shift/Rotate Engine
  | .rolRm8Cnt rm cnt => Sys2Proof.Machine.execRolRm8Cnt rm cnt s
  | .rorRm8Cnt rm cnt => Sys2Proof.Machine.execRorRm8Cnt rm cnt s
  | .rclRm8Cnt rm cnt => Sys2Proof.Machine.execRclRm8Cnt rm cnt s
  | .rcrRm8Cnt rm cnt => Sys2Proof.Machine.execRcrRm8Cnt rm cnt s
  | .shlRm8Cnt rm cnt => Sys2Proof.Machine.execShlRm8Cnt rm cnt s
  | .shrRm8Cnt rm cnt => Sys2Proof.Machine.execShrRm8Cnt rm cnt s
  | .salRm8Cnt rm cnt => Sys2Proof.Machine.execSalRm8Cnt rm cnt s
  | .sarRm8Cnt rm cnt => Sys2Proof.Machine.execSarRm8Cnt rm cnt s
  | .rolRm16Cnt rm cnt => Sys2Proof.Machine.execRolRm16Cnt rm cnt s
  | .rorRm16Cnt rm cnt => Sys2Proof.Machine.execRorRm16Cnt rm cnt s
  | .rclRm16Cnt rm cnt => Sys2Proof.Machine.execRclRm16Cnt rm cnt s
  | .rcrRm16Cnt rm cnt => Sys2Proof.Machine.execRcrRm16Cnt rm cnt s
  | .shlRm16Cnt rm cnt => Sys2Proof.Machine.execShlRm16Cnt rm cnt s
  | .shrRm16Cnt rm cnt => Sys2Proof.Machine.execShrRm16Cnt rm cnt s
  | .salRm16Cnt rm cnt => Sys2Proof.Machine.execSalRm16Cnt rm cnt s
  | .sarRm16Cnt rm cnt => Sys2Proof.Machine.execSarRm16Cnt rm cnt s
  | .rolRm8One rm => Sys2Proof.Machine.execRolRm8One rm s
  | .rorRm8One rm => Sys2Proof.Machine.execRorRm8One rm s
  | .rclRm8One rm => Sys2Proof.Machine.execRclRm8One rm s
  | .rcrRm8One rm => Sys2Proof.Machine.execRcrRm8One rm s
  | .shlRm8One rm => Sys2Proof.Machine.execShlRm8One rm s
  | .shrRm8One rm => Sys2Proof.Machine.execShrRm8One rm s
  | .salRm8One rm => Sys2Proof.Machine.execSalRm8One rm s
  | .sarRm8One rm => Sys2Proof.Machine.execSarRm8One rm s
  | .rolRm16One rm => Sys2Proof.Machine.execRolRm16One rm s
  | .rorRm16One rm => Sys2Proof.Machine.execRorRm16One rm s
  | .rclRm16One rm => Sys2Proof.Machine.execRclRm16One rm s
  | .rcrRm16One rm => Sys2Proof.Machine.execRcrRm16One rm s
  | .shlRm16One rm => Sys2Proof.Machine.execShlRm16One rm s
  | .shrRm16One rm => Sys2Proof.Machine.execShrRm16One rm s
  | .salRm16One rm => Sys2Proof.Machine.execSalRm16One rm s
  | .sarRm16One rm => Sys2Proof.Machine.execSarRm16One rm s
  | .rolRm8Cl rm => Sys2Proof.Machine.execRolRm8Cl rm s
  | .rorRm8Cl rm => Sys2Proof.Machine.execRorRm8Cl rm s
  | .rclRm8Cl rm => Sys2Proof.Machine.execRclRm8Cl rm s
  | .rcrRm8Cl rm => Sys2Proof.Machine.execRcrRm8Cl rm s
  | .shlRm8Cl rm => Sys2Proof.Machine.execShlRm8Cl rm s
  | .shrRm8Cl rm => Sys2Proof.Machine.execShrRm8Cl rm s
  | .salRm8Cl rm => Sys2Proof.Machine.execSalRm8Cl rm s
  | .sarRm8Cl rm => Sys2Proof.Machine.execSarRm8Cl rm s
  | .rolRm16Cl rm => Sys2Proof.Machine.execRolRm16Cl rm s
  | .rorRm16Cl rm => Sys2Proof.Machine.execRorRm16Cl rm s
  | .rclRm16Cl rm => Sys2Proof.Machine.execRclRm16Cl rm s
  | .rcrRm16Cl rm => Sys2Proof.Machine.execRcrRm16Cl rm s
  | .shlRm16Cl rm => Sys2Proof.Machine.execShlRm16Cl rm s
  | .shrRm16Cl rm => Sys2Proof.Machine.execShrRm16Cl rm s
  | .salRm16Cl rm => Sys2Proof.Machine.execSalRm16Cl rm s
  | .sarRm16Cl rm => Sys2Proof.Machine.execSarRm16Cl rm s
  -- string primitives
  | .movsb => Sys2Proof.Machine.execMovsb s
  | .movsw => Sys2Proof.Machine.execMovsw s
  | .cmpsb => Sys2Proof.Machine.execCmpsb s
  | .cmpsw => Sys2Proof.Machine.execCmpsw s
  | .stosb => Sys2Proof.Machine.execStosb s
  | .stosw => Sys2Proof.Machine.execStosw s
  | .lodsb => Sys2Proof.Machine.execLodsb s
  | .lodsw => Sys2Proof.Machine.execLodsw s
  | .scasb => Sys2Proof.Machine.execScasb s
  | .scasw => Sys2Proof.Machine.execScasw s
  -- stack primitives
  | .pushEs => Sys2Proof.Machine.execPushEs s
  | .popEs => Sys2Proof.Machine.execPopEs s
  | .pushCs => Sys2Proof.Machine.execPushCs s
  | .pushSs => Sys2Proof.Machine.execPushSs s
  | .popSs => Sys2Proof.Machine.execPopSs s
  | .pushDs => Sys2Proof.Machine.execPushDs s
  | .popDs => Sys2Proof.Machine.execPopDs s
  | .pushAx => Sys2Proof.Machine.execPushAx s
  | .pushCx => Sys2Proof.Machine.execPushCx s
  | .pushDx => Sys2Proof.Machine.execPushDx s
  | .pushBx => Sys2Proof.Machine.execPushBx s
  | .pushSp => Sys2Proof.Machine.execPushSp s
  | .pushBp => Sys2Proof.Machine.execPushBp s
  | .pushSi => Sys2Proof.Machine.execPushSi s
  | .pushDi => Sys2Proof.Machine.execPushDi s
  | .popAx => Sys2Proof.Machine.execPopAx s
  | .popCx => Sys2Proof.Machine.execPopCx s
  | .popDx => Sys2Proof.Machine.execPopDx s
  | .popBx => Sys2Proof.Machine.execPopBx s
  | .popSp => Sys2Proof.Machine.execPopSp s
  | .popBp => Sys2Proof.Machine.execPopBp s
  | .popSi => Sys2Proof.Machine.execPopSi s
  | .popDi => Sys2Proof.Machine.execPopDi s
  | .popRm16 rm => Sys2Proof.Machine.execPopRm16 rm s
  | .pushRm16 rm => Sys2Proof.Machine.execPushRm16 rm s
  -- control transfer
  | .jo rel => Sys2Proof.Machine.execJo rel s
  | .jno rel => Sys2Proof.Machine.execJno rel s
  | .jb rel => Sys2Proof.Machine.execJb rel s
  | .jae rel => Sys2Proof.Machine.execJae rel s
  | .je rel => Sys2Proof.Machine.execJe rel s
  | .jne rel => Sys2Proof.Machine.execJne rel s
  | .jbe rel => Sys2Proof.Machine.execJbe rel s
  | .ja rel => Sys2Proof.Machine.execJa rel s
  | .js rel => Sys2Proof.Machine.execJs rel s
  | .jns rel => Sys2Proof.Machine.execJns rel s
  | .jp rel => Sys2Proof.Machine.execJp rel s
  | .jnp rel => Sys2Proof.Machine.execJnp rel s
  | .jl rel => Sys2Proof.Machine.execJl rel s
  | .jge rel => Sys2Proof.Machine.execJge rel s
  | .jle rel => Sys2Proof.Machine.execJle rel s
  | .jg rel => Sys2Proof.Machine.execJg rel s
  | .callFar off seg => Sys2Proof.Machine.execCallFar off seg s
  | .retPop count => Sys2Proof.Machine.execRetPop count s
  | .ret => Sys2Proof.Machine.execRet s
  | .retfPop count => Sys2Proof.Machine.execRetfPop count s
  | .retf => Sys2Proof.Machine.execRetf s
  | .loopne rel => Sys2Proof.Machine.execLoopne rel s
  | .loope rel => Sys2Proof.Machine.execLoope rel s
  | .loop rel => Sys2Proof.Machine.execLoop rel s
  | .jcxz rel => Sys2Proof.Machine.execJcxz rel s
  | .callNear rel => Sys2Proof.Machine.execCallNear rel s
  | .jmpNear rel => Sys2Proof.Machine.execJmpNear rel s
  | .jmpFar off seg => Sys2Proof.Machine.execJmpFar off seg s
  | .jmpShort rel => Sys2Proof.Machine.execJmpShort rel s
  -- system instructions
  | .int vec => Sys2Proof.Machine.execInt vec s
  | .hlt => Sys2Proof.Machine.execHlt s
  -- unrecognized opcodes (Tier X)
  | .tierXPopCs => Sys2Proof.Machine.execTierXPopCs s
  | .tierXEsPrefix => Sys2Proof.Machine.execTierXEsPrefix s
  | .tierXCsPrefix => Sys2Proof.Machine.execTierXCsPrefix s
  | .tierXSsPrefix => Sys2Proof.Machine.execTierXSsPrefix s
  | .tierXDsPrefix => Sys2Proof.Machine.execTierXDsPrefix s
  | .tierXPusha => Sys2Proof.Machine.execTierXPusha s
  | .tierXPopa => Sys2Proof.Machine.execTierXPopa s
  | .tierXBound => Sys2Proof.Machine.execTierXBound s
  | .tierXUndefined63 => Sys2Proof.Machine.execTierXUndefined63 s
  | .tierXUndefined64 => Sys2Proof.Machine.execTierXUndefined64 s
  | .tierXUndefined65 => Sys2Proof.Machine.execTierXUndefined65 s
  | .tierXUndefined66 => Sys2Proof.Machine.execTierXUndefined66 s
  | .tierXUndefined67 => Sys2Proof.Machine.execTierXUndefined67 s
  | .tierXPushImm16 => Sys2Proof.Machine.execTierXPushImm16 s
  | .tierXImulR16Rm16Imm16 => Sys2Proof.Machine.execTierXImulR16Rm16Imm16 s
  | .tierXPushImm8 => Sys2Proof.Machine.execTierXPushImm8 s
  | .tierXImulR16Rm16Imm8 => Sys2Proof.Machine.execTierXImulR16Rm16Imm8 s
  | .tierXInsb => Sys2Proof.Machine.execTierXInsb s
  | .tierXInsw => Sys2Proof.Machine.execTierXInsw s
  | .tierXOutsb => Sys2Proof.Machine.execTierXOutsb s
  | .tierXOutsw => Sys2Proof.Machine.execTierXOutsw s
  | .tierXGroup1Alias82 => Sys2Proof.Machine.execTierXGroup1Alias82 s
  | .tierXTestRm8R8 => Sys2Proof.Machine.execTierXTestRm8R8 s
  | .tierXTestRm16R16 => Sys2Proof.Machine.execTierXTestRm16R16 s
  | .tierXXchgRm8R8 => Sys2Proof.Machine.execTierXXchgRm8R8 s
  | .tierXXchgRm16R16 => Sys2Proof.Machine.execTierXXchgRm16R16 s
  | .tierXMovRm16Sreg4 => Sys2Proof.Machine.execTierXMovRm16Sreg4 s
  | .tierXMovRm16Sreg5 => Sys2Proof.Machine.execTierXMovRm16Sreg5 s
  | .tierXMovRm16Sreg6 => Sys2Proof.Machine.execTierXMovRm16Sreg6 s
  | .tierXMovRm16Sreg7 => Sys2Proof.Machine.execTierXMovRm16Sreg7 s
  | .tierXLea => Sys2Proof.Machine.execTierXLea s
  | .tierXMovCsRm16 => Sys2Proof.Machine.execTierXMovCsRm16 s
  | .tierXMovSreg4Rm16 => Sys2Proof.Machine.execTierXMovSreg4Rm16 s
  | .tierXMovSreg5Rm16 => Sys2Proof.Machine.execTierXMovSreg5Rm16 s
  | .tierXMovSreg6Rm16 => Sys2Proof.Machine.execTierXMovSreg6Rm16 s
  | .tierXMovSreg7Rm16 => Sys2Proof.Machine.execTierXMovSreg7Rm16 s
  | .tierXUndefined8F1 => Sys2Proof.Machine.execTierXUndefined8F1 s
  | .tierXUndefined8F2 => Sys2Proof.Machine.execTierXUndefined8F2 s
  | .tierXUndefined8F3 => Sys2Proof.Machine.execTierXUndefined8F3 s
  | .tierXUndefined8F4 => Sys2Proof.Machine.execTierXUndefined8F4 s
  | .tierXUndefined8F5 => Sys2Proof.Machine.execTierXUndefined8F5 s
  | .tierXUndefined8F6 => Sys2Proof.Machine.execTierXUndefined8F6 s
  | .tierXUndefined8F7 => Sys2Proof.Machine.execTierXUndefined8F7 s
  | .tierXNop => Sys2Proof.Machine.execTierXNop s
  | .tierXXchgAxCx => Sys2Proof.Machine.execTierXXchgAxCx s
  | .tierXXchgAxDx => Sys2Proof.Machine.execTierXXchgAxDx s
  | .tierXXchgAxBx => Sys2Proof.Machine.execTierXXchgAxBx s
  | .tierXXchgAxSp => Sys2Proof.Machine.execTierXXchgAxSp s
  | .tierXXchgAxBp => Sys2Proof.Machine.execTierXXchgAxBp s
  | .tierXXchgAxSi => Sys2Proof.Machine.execTierXXchgAxSi s
  | .tierXXchgAxDi => Sys2Proof.Machine.execTierXXchgAxDi s
  | .tierXCbw => Sys2Proof.Machine.execTierXCbw s
  | .tierXCwd => Sys2Proof.Machine.execTierXCwd s
  | .tierXWait => Sys2Proof.Machine.execTierXWait s
  | .tierXPushf => Sys2Proof.Machine.execTierXPushf s
  | .tierXPopf => Sys2Proof.Machine.execTierXPopf s
  | .tierXSahf => Sys2Proof.Machine.execTierXSahf s
  | .tierXLahf => Sys2Proof.Machine.execTierXLahf s
  | .tierXTestAlImm8 => Sys2Proof.Machine.execTierXTestAlImm8 s
  | .tierXTestAxImm16 => Sys2Proof.Machine.execTierXTestAxImm16 s
  | .tierXLes => Sys2Proof.Machine.execTierXLes s
  | .tierXLds => Sys2Proof.Machine.execTierXLds s
  | .tierXUndefinedC61 => Sys2Proof.Machine.execTierXUndefinedC61 s
  | .tierXUndefinedC62 => Sys2Proof.Machine.execTierXUndefinedC62 s
  | .tierXUndefinedC63 => Sys2Proof.Machine.execTierXUndefinedC63 s
  | .tierXUndefinedC64 => Sys2Proof.Machine.execTierXUndefinedC64 s
  | .tierXUndefinedC65 => Sys2Proof.Machine.execTierXUndefinedC65 s
  | .tierXUndefinedC66 => Sys2Proof.Machine.execTierXUndefinedC66 s
  | .tierXUndefinedC67 => Sys2Proof.Machine.execTierXUndefinedC67 s
  | .tierXUndefinedC71 => Sys2Proof.Machine.execTierXUndefinedC71 s
  | .tierXUndefinedC72 => Sys2Proof.Machine.execTierXUndefinedC72 s
  | .tierXUndefinedC73 => Sys2Proof.Machine.execTierXUndefinedC73 s
  | .tierXUndefinedC74 => Sys2Proof.Machine.execTierXUndefinedC74 s
  | .tierXUndefinedC75 => Sys2Proof.Machine.execTierXUndefinedC75 s
  | .tierXUndefinedC76 => Sys2Proof.Machine.execTierXUndefinedC76 s
  | .tierXUndefinedC77 => Sys2Proof.Machine.execTierXUndefinedC77 s
  | .tierXEnter => Sys2Proof.Machine.execTierXEnter s
  | .tierXLeave => Sys2Proof.Machine.execTierXLeave s
  | .tierXInt3 => Sys2Proof.Machine.execTierXInt3 s
  | .tierXInto => Sys2Proof.Machine.execTierXInto s
  | .tierXIret => Sys2Proof.Machine.execTierXIret s
  | .tierXSalc => Sys2Proof.Machine.execTierXSalc s
  | .tierXXlat => Sys2Proof.Machine.execTierXXlat s
  | .tierXEsc0 => Sys2Proof.Machine.execTierXEsc0 s
  | .tierXEsc1 => Sys2Proof.Machine.execTierXEsc1 s
  | .tierXEsc2 => Sys2Proof.Machine.execTierXEsc2 s
  | .tierXEsc3 => Sys2Proof.Machine.execTierXEsc3 s
  | .tierXEsc4 => Sys2Proof.Machine.execTierXEsc4 s
  | .tierXEsc5 => Sys2Proof.Machine.execTierXEsc5 s
  | .tierXEsc6 => Sys2Proof.Machine.execTierXEsc6 s
  | .tierXEsc7 => Sys2Proof.Machine.execTierXEsc7 s
  | .tierXInAlImm8 => Sys2Proof.Machine.execTierXInAlImm8 s
  | .tierXInAxImm8 => Sys2Proof.Machine.execTierXInAxImm8 s
  | .tierXOutImm8Al => Sys2Proof.Machine.execTierXOutImm8Al s
  | .tierXOutImm8Ax => Sys2Proof.Machine.execTierXOutImm8Ax s
  | .tierXInAlDx => Sys2Proof.Machine.execTierXInAlDx s
  | .tierXInAxDx => Sys2Proof.Machine.execTierXInAxDx s
  | .tierXOutDxAl => Sys2Proof.Machine.execTierXOutDxAl s
  | .tierXOutDxAx => Sys2Proof.Machine.execTierXOutDxAx s
  | .tierXLockPrefix => Sys2Proof.Machine.execTierXLockPrefix s
  | .tierXUndefinedF1 => Sys2Proof.Machine.execTierXUndefinedF1 s
  | .tierXRepnePrefix => Sys2Proof.Machine.execTierXRepnePrefix s
  | .tierXRepRepePrefix => Sys2Proof.Machine.execTierXRepRepePrefix s
  | .tierXCmc => Sys2Proof.Machine.execTierXCmc s
  | .tierXTestRm8 => Sys2Proof.Machine.execTierXTestRm8 s
  | .tierXTestAliasRm8 => Sys2Proof.Machine.execTierXTestAliasRm8 s
  | .tierXNotRm8 => Sys2Proof.Machine.execTierXNotRm8 s
  | .tierXNegRm8 => Sys2Proof.Machine.execTierXNegRm8 s
  | .tierXMulRm8 => Sys2Proof.Machine.execTierXMulRm8 s
  | .tierXImulRm8 => Sys2Proof.Machine.execTierXImulRm8 s
  | .tierXDivRm8 => Sys2Proof.Machine.execTierXDivRm8 s
  | .tierXIdivRm8 => Sys2Proof.Machine.execTierXIdivRm8 s
  | .tierXTestRm16 => Sys2Proof.Machine.execTierXTestRm16 s
  | .tierXTestAliasRm16 => Sys2Proof.Machine.execTierXTestAliasRm16 s
  | .tierXNotRm16 => Sys2Proof.Machine.execTierXNotRm16 s
  | .tierXNegRm16 => Sys2Proof.Machine.execTierXNegRm16 s
  | .tierXMulRm16 => Sys2Proof.Machine.execTierXMulRm16 s
  | .tierXImulRm16 => Sys2Proof.Machine.execTierXImulRm16 s
  | .tierXDivRm16 => Sys2Proof.Machine.execTierXDivRm16 s
  | .tierXIdivRm16 => Sys2Proof.Machine.execTierXIdivRm16 s
  | .tierXClc => Sys2Proof.Machine.execTierXClc s
  | .tierXStc => Sys2Proof.Machine.execTierXStc s
  | .tierXCli => Sys2Proof.Machine.execTierXCli s
  | .tierXSti => Sys2Proof.Machine.execTierXSti s
  | .tierXCld => Sys2Proof.Machine.execTierXCld s
  | .tierXStd => Sys2Proof.Machine.execTierXStd s
  | .tierXUndefinedFE2 => Sys2Proof.Machine.execTierXUndefinedFE2 s
  | .tierXUndefinedFE3 => Sys2Proof.Machine.execTierXUndefinedFE3 s
  | .tierXUndefinedFE4 => Sys2Proof.Machine.execTierXUndefinedFE4 s
  | .tierXUndefinedFE5 => Sys2Proof.Machine.execTierXUndefinedFE5 s
  | .tierXUndefinedFE6 => Sys2Proof.Machine.execTierXUndefinedFE6 s
  | .tierXUndefinedFE7 => Sys2Proof.Machine.execTierXUndefinedFE7 s
  | .tierXCallRm16 => Sys2Proof.Machine.execTierXCallRm16 s
  | .tierXCallM16m16 => Sys2Proof.Machine.execTierXCallM16m16 s
  | .tierXJmpRm16 => Sys2Proof.Machine.execTierXJmpRm16 s
  | .tierXJmpM16m16 => Sys2Proof.Machine.execTierXJmpM16m16 s
  | .tierXUndefinedFF7 => Sys2Proof.Machine.execTierXUndefinedFF7 s

end Sys2Proof.Machine
end

