-- ==== Sys2Proof/Machine/Fetch.lean ====
section
/-! DEFINITION. Fetching, dispatching and ending one instruction (spec/47_system.md R342), and placing an
instruction where it is fetched. Step.lean only calls these. -/

namespace Sys2Proof.Machine

/-- R342: the end of a dispatched instruction, for each outcome. -/
def endStep : Result → Result
  | .next s => .next s.endInstruction
  | .fault f => .fault f
  | .refused r => .refused r

/-- R342, Dispatching and Executing: the instruction at the head of the fetched bytes runs with IP past
every byte of it (R28). -/
def runBytes (bytes : List Byte) (s : State) : Result :=
  match decode bytes with
  | .error .truncated => .refused .truncated
  | .ok (i, rest) => endStep (exec i (s.advance (bytes.length - rest.length)))

/-- R342: one step of a running machine. -/
def stepRunning (s : State) : Result :=
  match s.fetchWindow with
  | .error f => .fault f
  | .ok bytes => runBytes bytes s

/-- The store with bytes put at successive offsets of a segment, the offset wrapping (R29). -/
def State.pokeFrom (s : State) (seg : Word) : Word → List Byte → Memory
  | _, [] => s.mem
  | off, b :: bytes => (s.pokeFrom seg (off + 1) bytes).write (s.phys seg off) b

/-- The segment a placed instruction is fetched from: CS, or 0 where nothing can be fetched from CS
(R62). -/
def State.placeSegment (s : State) : Word := if s.phys s.cs s.ip < memSize then s.cs else 0

/-- A word of the opcode table stored where the next instruction is fetched, on a machine that runs
(DESIGN CHOICE, notes/assumptions/4.md and 5.md). -/
def State.placeWord (s : State) (nbits w : Nat) : State :=
  { s with
    status := .running
    cs := s.placeSegment
    mem := s.pokeFrom s.placeSegment s.ip (tableBytes nbits w) }

end Sys2Proof.Machine
end

