-- ==== Sys2Proof/Families.lean ====
section
/-! DEFINITION. The instructions grouped as the spec's rules group them, so that one statement can speak of
a whole family: the family of each instruction, and for each family whose members differ in one selector or
register, the member by that selector or register. -/

namespace Sys2Proof

/-- The families of instructions, one or more for each file 40 to 48 of spec/. -/
inductive Family where
  | alu (op : AluOp)
  | incDec (op : IncDec)
  | mov
  | bcdAdjust
  | bcdBase
  | shift (op : ShiftOp)
  | movs | cmps | stos | lods | scas
  | push | pop
  | jump | call | ret | branch | loop
  | int | hlt
  | unrecognized
  deriving DecidableEq, Repr

/-- The family of an instruction (the section of spec/ that gives its rule). -/
def Instr.family : Instr → Family
  | .addRm8R8 _ _ | .addRm16R16 _ _ | .addR8Rm8 _ _ | .addR16Rm16 _ _ | .addAlImm8 _ | .addAxImm16 _
  | .addRm8Imm8 _ _ | .addRm16Imm16 _ _ | .addRm16Simm8 _ _ => .alu .add
  | .pushEs | .pushCs | .pushSs | .pushDs | .pushAx | .pushCx | .pushDx | .pushBx | .pushSp | .pushBp
  | .pushSi | .pushDi | .pushRm16 _ => .push
  | .popEs | .popSs | .popDs | .popAx | .popCx | .popDx | .popBx | .popSp | .popBp | .popSi | .popDi
  | .popRm16 _ => .pop
  | .orRm8R8 _ _ | .orRm16R16 _ _ | .orR8Rm8 _ _ | .orR16Rm16 _ _ | .orAlImm8 _ | .orAxImm16 _
  | .orRm8Imm8 _ _ | .orRm16Imm16 _ _ | .orRm16Simm8 _ _ => .alu .or
  | .tierXPopCs | .tierXEsPrefix | .tierXCsPrefix | .tierXSsPrefix | .tierXDsPrefix | .tierXPusha
  | .tierXPopa | .tierXBound | .tierXUndefined63 | .tierXUndefined64 | .tierXUndefined65
  | .tierXUndefined66 | .tierXUndefined67 | .tierXPushImm16 | .tierXImulR16Rm16Imm16 | .tierXPushImm8
  | .tierXImulR16Rm16Imm8 | .tierXInsb | .tierXInsw | .tierXOutsb | .tierXOutsw | .tierXGroup1Alias82
  | .tierXTestRm8R8 | .tierXTestRm16R16 | .tierXXchgRm8R8 | .tierXXchgRm16R16 | .tierXMovRm16Sreg4
  | .tierXMovRm16Sreg5 | .tierXMovRm16Sreg6 | .tierXMovRm16Sreg7 | .tierXLea | .tierXMovCsRm16
  | .tierXMovSreg4Rm16 | .tierXMovSreg5Rm16 | .tierXMovSreg6Rm16 | .tierXMovSreg7Rm16
  | .tierXUndefined8F1 | .tierXUndefined8F2 | .tierXUndefined8F3 | .tierXUndefined8F4
  | .tierXUndefined8F5 | .tierXUndefined8F6 | .tierXUndefined8F7 | .tierXNop | .tierXXchgAxCx
  | .tierXXchgAxDx | .tierXXchgAxBx | .tierXXchgAxSp | .tierXXchgAxBp | .tierXXchgAxSi | .tierXXchgAxDi
  | .tierXCbw | .tierXCwd | .tierXWait | .tierXPushf | .tierXPopf | .tierXSahf | .tierXLahf
  | .tierXTestAlImm8 | .tierXTestAxImm16 | .tierXLes | .tierXLds | .tierXUndefinedC61
  | .tierXUndefinedC62 | .tierXUndefinedC63 | .tierXUndefinedC64 | .tierXUndefinedC65
  | .tierXUndefinedC66 | .tierXUndefinedC67 | .tierXUndefinedC71 | .tierXUndefinedC72
  | .tierXUndefinedC73 | .tierXUndefinedC74 | .tierXUndefinedC75 | .tierXUndefinedC76
  | .tierXUndefinedC77 | .tierXEnter | .tierXLeave | .tierXInt3 | .tierXInto | .tierXIret | .tierXSalc
  | .tierXXlat | .tierXEsc0 | .tierXEsc1 | .tierXEsc2 | .tierXEsc3 | .tierXEsc4 | .tierXEsc5
  | .tierXEsc6 | .tierXEsc7 | .tierXInAlImm8 | .tierXInAxImm8 | .tierXOutImm8Al | .tierXOutImm8Ax
  | .tierXInAlDx | .tierXInAxDx | .tierXOutDxAl | .tierXOutDxAx | .tierXLockPrefix | .tierXUndefinedF1
  | .tierXRepnePrefix | .tierXRepRepePrefix | .tierXCmc | .tierXTestRm8 | .tierXTestAliasRm8
  | .tierXNotRm8 | .tierXNegRm8 | .tierXMulRm8 | .tierXImulRm8 | .tierXDivRm8 | .tierXIdivRm8
  | .tierXTestRm16 | .tierXTestAliasRm16 | .tierXNotRm16 | .tierXNegRm16 | .tierXMulRm16
  | .tierXImulRm16 | .tierXDivRm16 | .tierXIdivRm16 | .tierXClc | .tierXStc | .tierXCli | .tierXSti
  | .tierXCld | .tierXStd | .tierXUndefinedFE2 | .tierXUndefinedFE3 | .tierXUndefinedFE4
  | .tierXUndefinedFE5 | .tierXUndefinedFE6 | .tierXUndefinedFE7 | .tierXCallRm16 | .tierXCallM16m16
  | .tierXJmpRm16 | .tierXJmpM16m16 | .tierXUndefinedFF7 => .unrecognized
  | .adcRm8R8 _ _ | .adcRm16R16 _ _ | .adcR8Rm8 _ _ | .adcR16Rm16 _ _ | .adcAlImm8 _ | .adcAxImm16 _
  | .adcRm8Imm8 _ _ | .adcRm16Imm16 _ _ | .adcRm16Simm8 _ _ => .alu .adc
  | .sbbRm8R8 _ _ | .sbbRm16R16 _ _ | .sbbR8Rm8 _ _ | .sbbR16Rm16 _ _ | .sbbAlImm8 _ | .sbbAxImm16 _
  | .sbbRm8Imm8 _ _ | .sbbRm16Imm16 _ _ | .sbbRm16Simm8 _ _ => .alu .sbb
  | .andRm8R8 _ _ | .andRm16R16 _ _ | .andR8Rm8 _ _ | .andR16Rm16 _ _ | .andAlImm8 _ | .andAxImm16 _
  | .andRm8Imm8 _ _ | .andRm16Imm16 _ _ | .andRm16Simm8 _ _ => .alu .and
  | .daa | .das | .aaa | .aas => .bcdAdjust
  | .subRm8R8 _ _ | .subRm16R16 _ _ | .subR8Rm8 _ _ | .subR16Rm16 _ _ | .subAlImm8 _ | .subAxImm16 _
  | .subRm8Imm8 _ _ | .subRm16Imm16 _ _ | .subRm16Simm8 _ _ => .alu .sub
  | .xorRm8R8 _ _ | .xorRm16R16 _ _ | .xorR8Rm8 _ _ | .xorR16Rm16 _ _ | .xorAlImm8 _ | .xorAxImm16 _
  | .xorRm8Imm8 _ _ | .xorRm16Imm16 _ _ | .xorRm16Simm8 _ _ => .alu .xor
  | .cmpRm8R8 _ _ | .cmpRm16R16 _ _ | .cmpR8Rm8 _ _ | .cmpR16Rm16 _ _ | .cmpAlImm8 _ | .cmpAxImm16 _
  | .cmpRm8Imm8 _ _ | .cmpRm16Imm16 _ _ | .cmpRm16Simm8 _ _ => .alu .cmp
  | .incAx | .incCx | .incDx | .incBx | .incSp | .incBp | .incSi | .incDi | .incRm8 _ | .incRm16 _ => .incDec .inc
  | .decAx | .decCx | .decDx | .decBx | .decSp | .decBp | .decSi | .decDi | .decRm8 _ | .decRm16 _ => .incDec .dec
  | .jo _ | .jno _ | .jb _ | .jae _ | .je _ | .jne _ | .jbe _ | .ja _ | .js _ | .jns _ | .jp _ | .jnp _
  | .jl _ | .jge _ | .jle _ | .jg _ | .jcxz _ => .branch
  | .movRm8R8 _ _ | .movRm16R16 _ _ | .movR8Rm8 _ _ | .movR16Rm16 _ _ | .movRm16Es _ | .movRm16Cs _
  | .movRm16Ss _ | .movRm16Ds _ | .movEsRm16 _ | .movSsRm16 _ | .movDsRm16 _ | .movAlMoffs _
  | .movAxMoffs _ | .movMoffsAl _ | .movMoffsAx _ | .movAlImm8 _ | .movClImm8 _ | .movDlImm8 _
  | .movBlImm8 _ | .movAhImm8 _ | .movChImm8 _ | .movDhImm8 _ | .movBhImm8 _ | .movAxImm16 _
  | .movCxImm16 _ | .movDxImm16 _ | .movBxImm16 _ | .movSpImm16 _ | .movBpImm16 _ | .movSiImm16 _
  | .movDiImm16 _ | .movRm8Imm8 _ _ | .movRm16Imm16 _ _ => .mov
  | .callFar _ _ | .callNear _ => .call
  | .movsb | .movsw => .movs
  | .cmpsb | .cmpsw => .cmps
  | .stosb | .stosw => .stos
  | .lodsb | .lodsw => .lods
  | .scasb | .scasw => .scas
  | .rolRm8Cnt _ _ | .rolRm16Cnt _ _ | .rolRm8One _ | .rolRm16One _ | .rolRm8Cl _ | .rolRm16Cl _ => .shift .rol
  | .rorRm8Cnt _ _ | .rorRm16Cnt _ _ | .rorRm8One _ | .rorRm16One _ | .rorRm8Cl _ | .rorRm16Cl _ => .shift .ror
  | .rclRm8Cnt _ _ | .rclRm16Cnt _ _ | .rclRm8One _ | .rclRm16One _ | .rclRm8Cl _ | .rclRm16Cl _ => .shift .rcl
  | .rcrRm8Cnt _ _ | .rcrRm16Cnt _ _ | .rcrRm8One _ | .rcrRm16One _ | .rcrRm8Cl _ | .rcrRm16Cl _ => .shift .rcr
  | .shlRm8Cnt _ _ | .shlRm16Cnt _ _ | .shlRm8One _ | .shlRm16One _ | .shlRm8Cl _ | .shlRm16Cl _ => .shift .shl
  | .shrRm8Cnt _ _ | .shrRm16Cnt _ _ | .shrRm8One _ | .shrRm16One _ | .shrRm8Cl _ | .shrRm16Cl _ => .shift .shr
  | .salRm8Cnt _ _ | .salRm16Cnt _ _ | .salRm8One _ | .salRm16One _ | .salRm8Cl _ | .salRm16Cl _ => .shift .sal
  | .sarRm8Cnt _ _ | .sarRm16Cnt _ _ | .sarRm8One _ | .sarRm16One _ | .sarRm8Cl _ | .sarRm16Cl _ => .shift .sar
  | .retPop _ | .ret | .retfPop _ | .retf => .ret
  | .int _ => .int
  | .aam _ | .aad _ => .bcdBase
  | .loopne _ | .loope _ | .loop _ => .loop
  | .jmpNear _ | .jmpFar _ _ | .jmpShort _ => .jump
  | .hlt => .hlt

/-- R166: the eight two-operand instructions in the form Rm8R8. -/
def AluOp.rm8R8 : AluOp → RM8 → Reg8 → Instr
  | .add => .addRm8R8
  | .or => .orRm8R8
  | .adc => .adcRm8R8
  | .sbb => .sbbRm8R8
  | .and => .andRm8R8
  | .sub => .subRm8R8
  | .xor => .xorRm8R8
  | .cmp => .cmpRm8R8

/-- R166: the eight two-operand instructions in the form Rm16R16. -/
def AluOp.rm16R16 : AluOp → RM16 → Reg16 → Instr
  | .add => .addRm16R16
  | .or => .orRm16R16
  | .adc => .adcRm16R16
  | .sbb => .sbbRm16R16
  | .and => .andRm16R16
  | .sub => .subRm16R16
  | .xor => .xorRm16R16
  | .cmp => .cmpRm16R16

/-- R166: the eight two-operand instructions in the form R8Rm8. -/
def AluOp.r8Rm8 : AluOp → RM8 → Reg8 → Instr
  | .add => .addR8Rm8
  | .or => .orR8Rm8
  | .adc => .adcR8Rm8
  | .sbb => .sbbR8Rm8
  | .and => .andR8Rm8
  | .sub => .subR8Rm8
  | .xor => .xorR8Rm8
  | .cmp => .cmpR8Rm8

/-- R166: the eight two-operand instructions in the form R16Rm16. -/
def AluOp.r16Rm16 : AluOp → RM16 → Reg16 → Instr
  | .add => .addR16Rm16
  | .or => .orR16Rm16
  | .adc => .adcR16Rm16
  | .sbb => .sbbR16Rm16
  | .and => .andR16Rm16
  | .sub => .subR16Rm16
  | .xor => .xorR16Rm16
  | .cmp => .cmpR16Rm16

/-- R166: the eight two-operand instructions in the form AlImm8. -/
def AluOp.alImm8 : AluOp → Byte → Instr
  | .add => .addAlImm8
  | .or => .orAlImm8
  | .adc => .adcAlImm8
  | .sbb => .sbbAlImm8
  | .and => .andAlImm8
  | .sub => .subAlImm8
  | .xor => .xorAlImm8
  | .cmp => .cmpAlImm8

/-- R166: the eight two-operand instructions in the form AxImm16. -/
def AluOp.axImm16 : AluOp → Word → Instr
  | .add => .addAxImm16
  | .or => .orAxImm16
  | .adc => .adcAxImm16
  | .sbb => .sbbAxImm16
  | .and => .andAxImm16
  | .sub => .subAxImm16
  | .xor => .xorAxImm16
  | .cmp => .cmpAxImm16

/-- R166: the eight two-operand instructions in the form Rm8Imm8. -/
def AluOp.rm8Imm8 : AluOp → RM8 → Byte → Instr
  | .add => .addRm8Imm8
  | .or => .orRm8Imm8
  | .adc => .adcRm8Imm8
  | .sbb => .sbbRm8Imm8
  | .and => .andRm8Imm8
  | .sub => .subRm8Imm8
  | .xor => .xorRm8Imm8
  | .cmp => .cmpRm8Imm8

/-- R166: the eight two-operand instructions in the form Rm16Imm16. -/
def AluOp.rm16Imm16 : AluOp → RM16 → Word → Instr
  | .add => .addRm16Imm16
  | .or => .orRm16Imm16
  | .adc => .adcRm16Imm16
  | .sbb => .sbbRm16Imm16
  | .and => .andRm16Imm16
  | .sub => .subRm16Imm16
  | .xor => .xorRm16Imm16
  | .cmp => .cmpRm16Imm16

/-- R166: the eight two-operand instructions in the form Rm16Simm8. -/
def AluOp.rm16Simm8 : AluOp → RM16 → Byte → Instr
  | .add => .addRm16Simm8
  | .or => .orRm16Simm8
  | .adc => .adcRm16Simm8
  | .sbb => .sbbRm16Simm8
  | .and => .andRm16Simm8
  | .sub => .subRm16Simm8
  | .xor => .xorRm16Simm8
  | .cmp => .cmpRm16Simm8

/-- R112, R222: the eight shifts and rotates of r/m8 with the count 1. -/
def ShiftOp.rm8One : ShiftOp → RM8 → Instr
  | .rol => .rolRm8One
  | .ror => .rorRm8One
  | .rcl => .rclRm8One
  | .rcr => .rcrRm8One
  | .shl => .shlRm8One
  | .shr => .shrRm8One
  | .sal => .salRm8One
  | .sar => .sarRm8One

/-- R112, R222: the eight shifts and rotates of r/m8 with the count in CL. -/
def ShiftOp.rm8Cl : ShiftOp → RM8 → Instr
  | .rol => .rolRm8Cl
  | .ror => .rorRm8Cl
  | .rcl => .rclRm8Cl
  | .rcr => .rcrRm8Cl
  | .shl => .shlRm8Cl
  | .shr => .shrRm8Cl
  | .sal => .salRm8Cl
  | .sar => .sarRm8Cl

/-- R112, R222: the eight shifts and rotates of r/m8 with the count in the instruction. -/
def ShiftOp.rm8Cnt : ShiftOp → RM8 → Byte → Instr
  | .rol => .rolRm8Cnt
  | .ror => .rorRm8Cnt
  | .rcl => .rclRm8Cnt
  | .rcr => .rcrRm8Cnt
  | .shl => .shlRm8Cnt
  | .shr => .shrRm8Cnt
  | .sal => .salRm8Cnt
  | .sar => .sarRm8Cnt

/-- R112, R222: the eight shifts and rotates of r/m16 with the count 1. -/
def ShiftOp.rm16One : ShiftOp → RM16 → Instr
  | .rol => .rolRm16One
  | .ror => .rorRm16One
  | .rcl => .rclRm16One
  | .rcr => .rcrRm16One
  | .shl => .shlRm16One
  | .shr => .shrRm16One
  | .sal => .salRm16One
  | .sar => .sarRm16One

/-- R112, R222: the eight shifts and rotates of r/m16 with the count in CL. -/
def ShiftOp.rm16Cl : ShiftOp → RM16 → Instr
  | .rol => .rolRm16Cl
  | .ror => .rorRm16Cl
  | .rcl => .rclRm16Cl
  | .rcr => .rcrRm16Cl
  | .shl => .shlRm16Cl
  | .shr => .shrRm16Cl
  | .sal => .salRm16Cl
  | .sar => .sarRm16Cl

/-- R112, R222: the eight shifts and rotates of r/m16 with the count in the instruction. -/
def ShiftOp.rm16Cnt : ShiftOp → RM16 → Byte → Instr
  | .rol => .rolRm16Cnt
  | .ror => .rorRm16Cnt
  | .rcl => .rclRm16Cnt
  | .rcr => .rcrRm16Cnt
  | .shl => .shlRm16Cnt
  | .shr => .shrRm16Cnt
  | .sal => .salRm16Cnt
  | .sar => .sarRm16Cnt

/-- R178: INC r16, by its register. -/
def Reg16.inc : Reg16 → Instr
  | .ax => .incAx
  | .cx => .incCx
  | .dx => .incDx
  | .bx => .incBx
  | .sp => .incSp
  | .bp => .incBp
  | .si => .incSi
  | .di => .incDi

/-- R179: DEC r16, by its register. -/
def Reg16.dec : Reg16 → Instr
  | .ax => .decAx
  | .cx => .decCx
  | .dx => .decDx
  | .bx => .decBx
  | .sp => .decSp
  | .bp => .decBp
  | .si => .decSi
  | .di => .decDi

/-- R272: PUSH r16, by its register. -/
def Reg16.push : Reg16 → Instr
  | .ax => .pushAx
  | .cx => .pushCx
  | .dx => .pushDx
  | .bx => .pushBx
  | .sp => .pushSp
  | .bp => .pushBp
  | .si => .pushSi
  | .di => .pushDi

/-- R275: POP r16, by its register. -/
def Reg16.pop : Reg16 → Instr
  | .ax => .popAx
  | .cx => .popCx
  | .dx => .popDx
  | .bx => .popBx
  | .sp => .popSp
  | .bp => .popBp
  | .si => .popSi
  | .di => .popDi

/-- R143: MOV r8, imm8, by its register. -/
def Reg8.movImm : Reg8 → Byte → Instr
  | .al => .movAlImm8
  | .cl => .movClImm8
  | .dl => .movDlImm8
  | .bl => .movBlImm8
  | .ah => .movAhImm8
  | .ch => .movChImm8
  | .dh => .movDhImm8
  | .bh => .movBhImm8

/-- R143: MOV r16, imm16, by its register. -/
def Reg16.movImm : Reg16 → Word → Instr
  | .ax => .movAxImm16
  | .cx => .movCxImm16
  | .dx => .movDxImm16
  | .bx => .movBxImm16
  | .sp => .movSpImm16
  | .bp => .movBpImm16
  | .si => .movSiImm16
  | .di => .movDiImm16

/-- R274: PUSH Sreg, by its register. -/
def SReg.push : SReg → Instr
  | .es => .pushEs
  | .cs => .pushCs
  | .ss => .pushSs
  | .ds => .pushDs

/-- R145: MOV r/m16, Sreg, by its register. -/
def SReg.movTo : SReg → RM16 → Instr
  | .es => .movRm16Es
  | .cs => .movRm16Cs
  | .ss => .movRm16Ss
  | .ds => .movRm16Ds

/-- R304 to R320: the sixteen conditional branches. -/
def Cond.jump : Cond → Byte → Instr
  | .o => .jo
  | .no => .jno
  | .b => .jb
  | .ae => .jae
  | .e => .je
  | .ne => .jne
  | .be => .jbe
  | .a => .ja
  | .s => .js
  | .ns => .jns
  | .p => .jp
  | .np => .jnp
  | .l => .jl
  | .ge => .jge
  | .le => .jle
  | .g => .jg

end Sys2Proof
end

