-- ==== Sys2Proof/Machine/HostOps.lean ====
section
/-! DEFINITION. What the host can do to the machine while it does not run (spec/70_reset_and_hazards.md R400
to R403): construct it, reset it, load an image, start it. -/

namespace Sys2Proof.Machine

/-- R400 CONSTRUCT: all state zeroed, MEM included (D10), with the parameters of the implementation. -/
def State.construct (cfg : Config) : State where
  ax := 0
  bx := 0
  cx := 0
  dx := 0
  sp := 0
  bp := 0
  si := 0
  di := 0
  cs := 0
  ds := 0
  ss := 0
  es := 0
  ip := 0
  flags := 0
  intDelay := 0
  status := .running
  mem := []
  conout := []
  diag := []
  draws := 0
  cfg := cfg

/-- General and pointer registers cleared (R401, R403). -/
def State.clearRegs (s : State) : State :=
  { s with ax := 0, bx := 0, cx := 0, dx := 0, sp := 0, bp := 0, si := 0, di := 0 }

/-- R401 RESET: IP is a free value. -/
def State.resetOp (s : State) : State :=
  { s.clearRegs.drew 1 with intDelay := 0, ip := s.drawnWord 0, status := .running }

/-- R403: the image bytes copied from physical address `a` on. -/
def Memory.writeImage (m : Memory) : Nat → List Byte → Memory
  | _, [] => m
  | a, b :: bytes => (m.write a b).writeImage (a + 1) bytes

/-- R403 LOAD: `none` when the image is rejected. -/
def State.load (s : State) (image : List Byte) : Option State :=
  if imageMax < image.length ∨ memSize < loadOffset.toNat + image.length then none
  else some
    { s.clearRegs with
      sp := s.cfg.spInit
      cs := 0, ds := 0, ss := 0, es := 0
      ip := loadOffset
      flags := s.cfg.flagsInit
      mem := s.mem.writeImage loadOffset.toNat image }

/-- R402 START: the loop, for at most `n` steps. It stops at the first state that is not running. -/
def State.start : Nat → State → Result
  | 0, s => .next s
  | n + 1, s =>
    match s.status with
    | .terminated _ | .stopped _ => .next s
    | .running =>
      match step s with
      | .next t => t.start n
      | .fault f => .fault f
      | .refused r => .refused r

/-- R402, R412: the run started in `s` ends in `t`, after however many steps. A run need not end. -/
def State.EndsIn (s t : State) : Prop := ∃ n, s.start n = .next t ∧ t.status ≠ .running

/-- R402: what the loop hands the host when it ends. -/
inductive RunOutcome where
  /-- The exit code, which the host propagates. -/
  | terminated (code : Byte)
  /-- The unrecognized opcode; there is no exit code (R37). -/
  | stopped (op : Byte)
  deriving DecidableEq, Repr

/-- R402: the outcome handed to the host; none while the machine runs. -/
def State.outcome (s : State) : Option RunOutcome :=
  match s.status with
  | .running => none
  | .terminated code => some (.terminated code)
  | .stopped op => some (.stopped op)

end Sys2Proof.Machine
end

