-- ==== Sys2Proof/Safety.lean ====
section
/-! DEFINITION. The terms in which claims about the machine are made: what a safe run is, the invariant every
step keeps, what may be observed of a state, the flags of the ALU/Flags Engine in integer terms, and what an
instruction may change (its footprint). -/

namespace Sys2Proof.Machine

/-- A run is safe for `n` steps when none of them faults or is refused; a run that ends sooner is safe. -/
def SafeFor (n : Nat) (s : State) : Prop := ∃ t, s.start n = .next t

/-- R412: the run has ended. -/
def State.ended (s : State) : Bool := s.status != .running

/-- What every step keeps: the store in canonical form and within its 2^20 bytes, and INTDELAY at most
the value it is set to (R34). -/
def State.inv (s : State) : Bool := s.mem.wf && decide (s.intDelay ≤ intDelaySet)

/-- R31, R33: the bits of FLAGS that some instruction reads or writes, and DF: CF, PF, AF, ZF, SF, DF, OF. -/
def activeFlagBits : Word := 0x0CD5

/-- A state without what no instruction reads: INTDELAY (R34), IF (R33) and the reserved bits of FLAGS
(R31). -/
def State.observable (s : State) : State :=
  { s with intDelay := 0, flags := s.flags &&& activeFlagBits }

/-- An outcome with its state as far as it can be observed. -/
def observed : Result → Result
  | .next s => .next s.observable
  | .fault f => .fault f
  | .refused r => .refused r

/-! ### The flags in integer terms -/

/-- The number of set bits among the low eight bits of `n`. -/
def onesInLowByte (n : Nat) : Nat :=
  n % 2 + n / 2 % 2 + n / 4 % 2 + n / 8 % 2 + n / 16 % 2 + n / 32 % 2 + n / 64 % 2 + n / 128 % 2

/-- R163: ZF, SF and PF of a result. -/
structure ResultFlags {w : Nat} (r : BitVec w) (fl : Word) : Prop where
  zf : getFlag fl .zf = decide (r.toNat = 0)
  sf : getFlag fl .sf = decide (2 ^ (w - 1) ≤ r.toNat)
  pf : getFlag fl .pf = decide (onesInLowByte r.toNat % 2 = 0)

/-- R160: the bits of FLAGS outside CF, PF, AF, ZF, SF and OF are kept. -/
def SystemBitsKept (before after : Word) : Prop :=
  ∀ k, k ∉ [0, 2, 4, 6, 7, 11] → after.getLsbD k = before.getLsbD k

/-- An integer outside the signed range of `w` bits. -/
def outsideSigned (w : Nat) (z : Int) : Bool := decide (z < -2 ^ (w - 1) ∨ 2 ^ (w - 1) ≤ z)

/-- R161, R165: the flags after `a + b + c`. -/
structure AddFlagsHold {w : Nat} (a b : BitVec w) (c : Bool) (before after : Word) : Prop where
  cf : getFlag after .cf = decide (2 ^ w ≤ a.toNat + b.toNat + c.toNat)
  af : getFlag after .af = decide (16 ≤ a.toNat % 16 + b.toNat % 16 + c.toNat)
  of_ : getFlag after .of_ = outsideSigned w (a.toInt + b.toInt + c.toNat)
  result : ResultFlags (BitVec.ofNat w (a.toNat + b.toNat + c.toNat)) after
  kept : SystemBitsKept before after

/-- R162, R165: the flags after `a - b - c`. -/
structure SubFlagsHold {w : Nat} (a b : BitVec w) (c : Bool) (before after : Word) : Prop where
  cf : getFlag after .cf = decide (a.toNat < b.toNat + c.toNat)
  af : getFlag after .af = decide (a.toNat % 16 < b.toNat % 16 + c.toNat)
  of_ : getFlag after .of_ = outsideSigned w (a.toInt - b.toInt - c.toNat)
  result : ResultFlags (BitVec.ofInt w (a.toNat - b.toNat - c.toNat)) after
  kept : SystemBitsKept before after

/-- R164: the flags after a logical operation. -/
structure LogicFlagsHold {w : Nat} (r : BitVec w) (before after : Word) : Prop where
  cf : getFlag after .cf = false
  af : getFlag after .af = false
  of_ : getFlag after .of_ = false
  result : ResultFlags r after
  kept : SystemBitsKept before after

end Sys2Proof.Machine

namespace Sys2Proof

open Sys2Proof.Machine

/-- R166: what a two-operand instruction leaves at its destination and in FLAGS. -/
structure AluOp.Leaves8 (op : AluOp) (loc : Loc Reg8) (left right : Byte) (s t : State) : Prop where
  flags : t.flags = (op.compute left right s.flags).2
  dest : t.readLoc8 loc = .ok (if op.writes then (op.compute left right s.flags).1 else left)

/-- R166: the same for a word instruction. -/
structure AluOp.Leaves16 (op : AluOp) (loc : Loc Reg16) (left right : Word) (s t : State) : Prop where
  flags : t.flags = (op.compute left right s.flags).2
  dest : t.readLoc16 loc = .ok (if op.writes then (op.compute left right s.flags).1 else left)

/-- R178, R179: the result of INC or DEC and the flags after it: those of the addition or subtraction of
1, but for CF, which is as it was. -/
def IncDec.Leaves {w : Nat} (op : IncDec) (v res : BitVec w) (before after : Word) : Prop :=
  ∃ fl, after = putFlag fl .cf (getFlag before .cf) ∧
    match op with
    | .inc => res = v + 1 ∧ AddFlagsHold v 1 false before fl
    | .dec => res = v - 1 ∧ SubFlagsHold v 1 false before fl

/-- R221 to R226: the result of a shift or rotate whose count is not 0 modulo 32, and the flags after it. -/
structure ShiftOp.Leaves {w : Nat} (op : ShiftOp) (v : BitVec w) (count : Byte) (res : BitVec w)
    (before after : Word) : Prop where
  result : res = (op.steps (count.toNat % 32) v (getFlag before .cf)).1
  cf : getFlag after .cf = (op.steps (count.toNat % 32) v (getFlag before .cf)).2
  of_ : getFlag after .of_ =
    if count = 1 then op.overflowOne res (getFlag after .cf) else false
  shifts : op ∈ [.shl, .shr, .sal, .sar] → ResultFlags res after ∧ getFlag after .af = false
  rotates : op ∈ [.rol, .ror, .rcl, .rcr] →
    ∀ f, f ∈ [Flag.zf, .sf, .pf, .af] → getFlag after f = getFlag before f
  kept : SystemBitsKept before after

end Sys2Proof

namespace Sys2Proof.Machine

/-- What an instruction may change, beside IP, which every instruction may change. -/
structure Footprint where
  /-- Byte registers. -/
  bytes : List Reg8 := []
  /-- Word registers. -/
  words : List Reg16 := []
  /-- Segment registers. -/
  sregs : List SReg := []
  /-- Flags. -/
  flags : List Flag := []
  /-- Physical addresses. -/
  cells : List Nat := []
  /-- INTDELAY. -/
  delay : Bool := false
  /-- STATUS. -/
  status : Bool := false
  /-- CONOUT. -/
  conout : Bool := false
  /-- DIAG. -/
  diag : Bool := false
  /-- The model's count of free values. -/
  draws : Bool := false

/-- Everything outside the footprint is as it was. A byte register is outside when neither it nor its
word register is listed, a word register when neither it nor a half of it is. -/
structure Footprint.Covers (fp : Footprint) (s t : State) : Prop where
  reg8 : ∀ r : Reg8, r ∉ fp.bytes → r.parent ∉ fp.words → t.reg8 r = s.reg8 r
  reg16 : ∀ r : Reg16, r ∉ fp.words → (∀ b ∈ fp.bytes, b.parent ≠ r) → t.reg16 r = s.reg16 r
  sreg : ∀ r : SReg, r ∉ fp.sregs → t.sreg r = s.sreg r
  flagBits : ∀ k, k ∉ fp.flags.map Flag.bit → t.flags.getLsbD k = s.flags.getLsbD k
  mem : ∀ a, a ∉ fp.cells → t.mem.read a = s.mem.read a
  delay : fp.delay = false → t.intDelay = s.intDelay
  status : fp.status = false → t.status = s.status
  conout : fp.conout = false → t.conout = s.conout
  diag : fp.diag = false → t.diag = s.diag
  draws : fp.draws = false → t.draws = s.draws
  cfg : t.cfg = s.cfg

/-- R32: the flags of the ALU/Flags Engine. -/
def arithFlags : List Flag := [.cf, .pf, .af, .zf, .sf, .of_]

/-- R32: the flags INC and DEC write. -/
def countFlags : List Flag := [.pf, .af, .zf, .sf, .of_]

end Sys2Proof.Machine

namespace Sys2Proof

open Sys2Proof.Machine

/-- R225: the flags a shift or rotate with a masked count other than 0 writes. -/
def ShiftOp.flagsWritten (op : ShiftOp) : List Flag := if op.isShift then arithFlags else [.cf, .of_]

/-- R166: the footprint of a two-operand instruction whose destination is an r/m8 operand. -/
def AluOp.footRm8 (op : AluOp) (rm : RM8) (s : State) : Footprint :=
  match op.writes, rm with
  | false, _ => { flags := arithFlags }
  | true, .reg r => { bytes := [r], flags := arithFlags }
  | true, .mem _ => { cells := (s.locate rm).cells8 s, flags := arithFlags }

/-- R166: the same for an r/m16 operand. -/
def AluOp.footRm16 (op : AluOp) (rm : RM16) (s : State) : Footprint :=
  match op.writes, rm with
  | false, _ => { flags := arithFlags }
  | true, .reg r => { words := [r], flags := arithFlags }
  | true, .mem _ => { cells := (s.locate rm).cells16 s, flags := arithFlags }

/-- The footprint of a write to an r/m8 operand. -/
def footRm8 (rm : RM8) (flags : List Flag) (s : State) : Footprint :=
  match rm with
  | .reg r => { bytes := [r], flags := flags }
  | .mem _ => { cells := (s.locate rm).cells8 s, flags := flags }

/-- The footprint of a write to an r/m16 operand. -/
def footRm16 (rm : RM16) (flags : List Flag) (s : State) : Footprint :=
  match rm with
  | .reg r => { words := [r], flags := flags }
  | .mem _ => { cells := (s.locate rm).cells16 s, flags := flags }

/-- R221: the footprint of a shift or rotate of an r/m8 operand; a masked count of 0 changes nothing. -/
def ShiftOp.footRm8 (op : ShiftOp) (rm : RM8) (count : Byte) (s : State) : Footprint :=
  if maskedCount count = 0 then {} else Sys2Proof.footRm8 rm op.flagsWritten s

/-- R221: the same for an r/m16 operand. -/
def ShiftOp.footRm16 (op : ShiftOp) (rm : RM16) (count : Byte) (s : State) : Footprint :=
  if maskedCount count = 0 then {} else Sys2Proof.footRm16 rm op.flagsWritten s

/-- R270: the bytes a push stores, at the SP it leaves. -/
def pushCells (s : State) (sp : Word) : List Nat := [s.phys s.ss sp, s.phys s.ss (sp + 1)]

end Sys2Proof
end

