-- ==== Sys2Proof/Footprint.lean ====
section
/-! DEFINITION. What each instruction may change, from the instruction rules of spec/40 to 48 and from the
flag table of spec/10_state.md R32, and which r/m operand it reads or writes first. -/

namespace Sys2Proof

open Sys2Proof.Machine

/-- The footprint of an instruction executed in a state: its destination, the registers its rule also
updates, the flags it writes (R32) and the bytes it stores. -/
def Instr.footprint (i : Instr) (s : State) : Footprint :=
  match i with
  | .addRm8R8 rm _ | .addRm8Imm8 rm _ => AluOp.footRm8 .add rm s
  | .addRm16R16 rm _ | .addRm16Imm16 rm _ | .addRm16Simm8 rm _ => AluOp.footRm16 .add rm s
  | .addR8Rm8 _ r => AluOp.footRm8 .add (.reg r) s
  | .addR16Rm16 _ r => AluOp.footRm16 .add (.reg r) s
  | .addAlImm8 _ => AluOp.footRm8 .add (.reg .al) s
  | .addAxImm16 _ => AluOp.footRm16 .add (.reg .ax) s
  | .pushEs | .pushCs | .pushSs | .pushDs | .pushAx | .pushCx | .pushDx | .pushBx | .pushSp | .pushBp
  | .pushSi | .pushDi | .callNear _ | .pushRm16 _ => { words := [.sp], cells := pushCells s (s.sp - 2) }
  | .popEs => { words := [.sp], sregs := [.es] }
  | .orRm8R8 rm _ | .orRm8Imm8 rm _ => AluOp.footRm8 .or rm s
  | .orRm16R16 rm _ | .orRm16Imm16 rm _ | .orRm16Simm8 rm _ => AluOp.footRm16 .or rm s
  | .orR8Rm8 _ r => AluOp.footRm8 .or (.reg r) s
  | .orR16Rm16 _ r => AluOp.footRm16 .or (.reg r) s
  | .orAlImm8 _ => AluOp.footRm8 .or (.reg .al) s
  | .orAxImm16 _ => AluOp.footRm16 .or (.reg .ax) s
  | .tierXPopCs | .tierXEsPrefix | .tierXCsPrefix | .tierXSsPrefix | .tierXDsPrefix | .tierXPusha
  | .tierXPopa | .tierXBound | .tierXUndefined63 | .tierXUndefined64 | .tierXUndefined65
  | .tierXUndefined66 | .tierXUndefined67 | .tierXPushImm16 | .tierXImulR16Rm16Imm16 | .tierXPushImm8
  | .tierXImulR16Rm16Imm8 | .tierXInsb | .tierXInsw | .tierXOutsb | .tierXOutsw | .tierXGroup1Alias82
  | .tierXTestRm8R8 | .tierXTestRm16R16 | .tierXXchgRm8R8 | .tierXXchgRm16R16 | .tierXMovRm16Sreg4
  | .tierXMovRm16Sreg5 | .tierXMovRm16Sreg6 | .tierXMovRm16Sreg7 | .tierXLea | .tierXMovCsRm16
  | .tierXMovSreg4Rm16 | .tierXMovSreg5Rm16 | .tierXMovSreg6Rm16 | .tierXMovSreg7Rm16
  | .tierXUndefined8F1 | .tierXUndefined8F2 | .tierXUndefined8F3 | .tierXUndefined8F4
  | .tierXUndefined8F5 | .tierXUndefined8F6 | .tierXUndefined8F7 | .tierXNop | .tierXXchgAxCx
  | .tierXXchgAxDx | .tierXXchgAxBx | .tierXXchgAxSp | .tierXXchgAxBp | .tierXXchgAxSi | .tierXXchgAxDi
  | .tierXCbw | .tierXCwd | .tierXWait | .tierXPushf | .tierXPopf | .tierXSahf | .tierXLahf
  | .tierXTestAlImm8 | .tierXTestAxImm16 | .tierXLes | .tierXLds | .tierXUndefinedC61
  | .tierXUndefinedC62 | .tierXUndefinedC63 | .tierXUndefinedC64 | .tierXUndefinedC65
  | .tierXUndefinedC66 | .tierXUndefinedC67 | .tierXUndefinedC71 | .tierXUndefinedC72
  | .tierXUndefinedC73 | .tierXUndefinedC74 | .tierXUndefinedC75 | .tierXUndefinedC76
  | .tierXUndefinedC77 | .tierXEnter | .tierXLeave | .tierXInt3 | .tierXInto | .tierXIret | .tierXSalc
  | .tierXXlat | .tierXEsc0 | .tierXEsc1 | .tierXEsc2 | .tierXEsc3 | .tierXEsc4 | .tierXEsc5
  | .tierXEsc6 | .tierXEsc7 | .tierXInAlImm8 | .tierXInAxImm8 | .tierXOutImm8Al | .tierXOutImm8Ax
  | .tierXInAlDx | .tierXInAxDx | .tierXOutDxAl | .tierXOutDxAx | .tierXLockPrefix | .tierXUndefinedF1
  | .tierXRepnePrefix | .tierXRepRepePrefix | .tierXCmc | .tierXTestRm8 | .tierXTestAliasRm8
  | .tierXNotRm8 | .tierXNegRm8 | .tierXMulRm8 | .tierXImulRm8 | .tierXDivRm8 | .tierXIdivRm8
  | .tierXTestRm16 | .tierXTestAliasRm16 | .tierXNotRm16 | .tierXNegRm16 | .tierXMulRm16
  | .tierXImulRm16 | .tierXDivRm16 | .tierXIdivRm16 | .tierXClc | .tierXStc | .tierXCli | .tierXSti
  | .tierXCld | .tierXStd | .tierXUndefinedFE2 | .tierXUndefinedFE3 | .tierXUndefinedFE4
  | .tierXUndefinedFE5 | .tierXUndefinedFE6 | .tierXUndefinedFE7 | .tierXCallRm16 | .tierXCallM16m16
  | .tierXJmpRm16 | .tierXJmpM16m16 | .tierXUndefinedFF7 => { status := true, diag := true, draws := true }
  | .adcRm8R8 rm _ | .adcRm8Imm8 rm _ => AluOp.footRm8 .adc rm s
  | .adcRm16R16 rm _ | .adcRm16Imm16 rm _ | .adcRm16Simm8 rm _ => AluOp.footRm16 .adc rm s
  | .adcR8Rm8 _ r => AluOp.footRm8 .adc (.reg r) s
  | .adcR16Rm16 _ r => AluOp.footRm16 .adc (.reg r) s
  | .adcAlImm8 _ => AluOp.footRm8 .adc (.reg .al) s
  | .adcAxImm16 _ => AluOp.footRm16 .adc (.reg .ax) s
  | .popSs => { words := [.sp], sregs := [.ss], delay := true }
  | .sbbRm8R8 rm _ | .sbbRm8Imm8 rm _ => AluOp.footRm8 .sbb rm s
  | .sbbRm16R16 rm _ | .sbbRm16Imm16 rm _ | .sbbRm16Simm8 rm _ => AluOp.footRm16 .sbb rm s
  | .sbbR8Rm8 _ r => AluOp.footRm8 .sbb (.reg r) s
  | .sbbR16Rm16 _ r => AluOp.footRm16 .sbb (.reg r) s
  | .sbbAlImm8 _ => AluOp.footRm8 .sbb (.reg .al) s
  | .sbbAxImm16 _ => AluOp.footRm16 .sbb (.reg .ax) s
  | .popDs => { words := [.sp], sregs := [.ds] }
  | .andRm8R8 rm _ | .andRm8Imm8 rm _ => AluOp.footRm8 .and rm s
  | .andRm16R16 rm _ | .andRm16Imm16 rm _ | .andRm16Simm8 rm _ => AluOp.footRm16 .and rm s
  | .andR8Rm8 _ r => AluOp.footRm8 .and (.reg r) s
  | .andR16Rm16 _ r => AluOp.footRm16 .and (.reg r) s
  | .andAlImm8 _ => AluOp.footRm8 .and (.reg .al) s
  | .andAxImm16 _ => AluOp.footRm16 .and (.reg .ax) s
  | .daa | .das => { bytes := [.al], flags := arithFlags, draws := true }
  | .subRm8R8 rm _ | .subRm8Imm8 rm _ => AluOp.footRm8 .sub rm s
  | .subRm16R16 rm _ | .subRm16Imm16 rm _ | .subRm16Simm8 rm _ => AluOp.footRm16 .sub rm s
  | .subR8Rm8 _ r => AluOp.footRm8 .sub (.reg r) s
  | .subR16Rm16 _ r => AluOp.footRm16 .sub (.reg r) s
  | .subAlImm8 _ => AluOp.footRm8 .sub (.reg .al) s
  | .subAxImm16 _ => AluOp.footRm16 .sub (.reg .ax) s
  | .xorRm8R8 rm _ | .xorRm8Imm8 rm _ => AluOp.footRm8 .xor rm s
  | .xorRm16R16 rm _ | .xorRm16Imm16 rm _ | .xorRm16Simm8 rm _ => AluOp.footRm16 .xor rm s
  | .xorR8Rm8 _ r => AluOp.footRm8 .xor (.reg r) s
  | .xorR16Rm16 _ r => AluOp.footRm16 .xor (.reg r) s
  | .xorAlImm8 _ => AluOp.footRm8 .xor (.reg .al) s
  | .xorAxImm16 _ => AluOp.footRm16 .xor (.reg .ax) s
  | .aaa | .aas => { bytes := [.al, .ah], flags := arithFlags, draws := true }
  | .cmpRm8R8 rm _ | .cmpRm8Imm8 rm _ => AluOp.footRm8 .cmp rm s
  | .cmpRm16R16 rm _ | .cmpRm16Imm16 rm _ | .cmpRm16Simm8 rm _ => AluOp.footRm16 .cmp rm s
  | .cmpR8Rm8 _ r => AluOp.footRm8 .cmp (.reg r) s
  | .cmpR16Rm16 _ r => AluOp.footRm16 .cmp (.reg r) s
  | .cmpAlImm8 _ => AluOp.footRm8 .cmp (.reg .al) s
  | .cmpAxImm16 _ => AluOp.footRm16 .cmp (.reg .ax) s
  | .incAx | .decAx => { words := [.ax], flags := countFlags }
  | .incCx | .decCx => { words := [.cx], flags := countFlags }
  | .incDx | .decDx => { words := [.dx], flags := countFlags }
  | .incBx | .decBx => { words := [.bx], flags := countFlags }
  | .incSp | .decSp => { words := [.sp], flags := countFlags }
  | .incBp | .decBp => { words := [.bp], flags := countFlags }
  | .incSi | .decSi => { words := [.si], flags := countFlags }
  | .incDi | .decDi => { words := [.di], flags := countFlags }
  | .popAx => { words := [.ax, .sp] }
  | .popCx => { words := [.cx, .sp] }
  | .popDx => { words := [.dx, .sp] }
  | .popBx => { words := [.bx, .sp] }
  | .popSp => { words := [.sp, .sp] }
  | .popBp => { words := [.bp, .sp] }
  | .popSi => { words := [.si, .sp] }
  | .popDi => { words := [.di, .sp] }
  | .jo _ | .jno _ | .jb _ | .jae _ | .je _ | .jne _ | .jbe _ | .ja _ | .js _ | .jns _ | .jp _ | .jnp _
  | .jl _ | .jge _ | .jle _ | .jg _ | .jcxz _ | .jmpNear _ | .jmpShort _ => {}
  | .movRm8R8 rm _ | .movRm8Imm8 rm _ => footRm8 rm [] s
  | .movRm16R16 rm _ | .movRm16Es rm | .movRm16Cs rm | .movRm16Ss rm | .movRm16Ds rm
  | .movRm16Imm16 rm _ => footRm16 rm [] s
  | .movR8Rm8 _ r => { bytes := [r] }
  | .movR16Rm16 _ r => { words := [r] }
  | .movEsRm16 _ => { sregs := [.es] }
  | .movSsRm16 _ => { sregs := [.ss], delay := true }
  | .movDsRm16 _ => { sregs := [.ds] }
  | .popRm16 rm => { footRm16 rm [] s with words := .sp :: (footRm16 rm [] s).words }
  | .callFar _ _ => { words := [.sp], sregs := [.cs], cells := pushCells s (s.sp - 2) ++ pushCells s (s.sp - 4) }
  | .movAlMoffs _ | .movAlImm8 _ => { bytes := [.al] }
  | .movAxMoffs _ | .movAxImm16 _ => { words := [.ax] }
  | .movMoffsAl off => { cells := [s.phys s.ds off] }
  | .movMoffsAx off => { cells := [s.phys s.ds off, s.phys s.ds (off + 1)] }
  | .movsb => { words := [.si, .di], cells := [s.phys s.es s.di] }
  | .movsw => { words := [.si, .di], cells := [s.phys s.es s.di, s.phys s.es (s.di + 1)] }
  | .cmpsb | .cmpsw => { words := [.si, .di], flags := arithFlags }
  | .stosb => { words := [.di], cells := [s.phys s.es s.di] }
  | .stosw => { words := [.di], cells := [s.phys s.es s.di, s.phys s.es (s.di + 1)] }
  | .lodsb => { bytes := [.al], words := [.si] }
  | .lodsw => { words := [.ax, .si] }
  | .scasb | .scasw => { words := [.di], flags := arithFlags }
  | .movClImm8 _ => { bytes := [.cl] }
  | .movDlImm8 _ => { bytes := [.dl] }
  | .movBlImm8 _ => { bytes := [.bl] }
  | .movAhImm8 _ => { bytes := [.ah] }
  | .movChImm8 _ => { bytes := [.ch] }
  | .movDhImm8 _ => { bytes := [.dh] }
  | .movBhImm8 _ => { bytes := [.bh] }
  | .movCxImm16 _ => { words := [.cx] }
  | .movDxImm16 _ => { words := [.dx] }
  | .movBxImm16 _ => { words := [.bx] }
  | .movSpImm16 _ | .retPop _ | .ret => { words := [.sp] }
  | .movBpImm16 _ => { words := [.bp] }
  | .movSiImm16 _ => { words := [.si] }
  | .movDiImm16 _ => { words := [.di] }
  | .rolRm8Cnt rm cnt => ShiftOp.footRm8 .rol rm cnt s
  | .rorRm8Cnt rm cnt => ShiftOp.footRm8 .ror rm cnt s
  | .rclRm8Cnt rm cnt => ShiftOp.footRm8 .rcl rm cnt s
  | .rcrRm8Cnt rm cnt => ShiftOp.footRm8 .rcr rm cnt s
  | .shlRm8Cnt rm cnt => ShiftOp.footRm8 .shl rm cnt s
  | .shrRm8Cnt rm cnt => ShiftOp.footRm8 .shr rm cnt s
  | .salRm8Cnt rm cnt => ShiftOp.footRm8 .sal rm cnt s
  | .sarRm8Cnt rm cnt => ShiftOp.footRm8 .sar rm cnt s
  | .rolRm16Cnt rm cnt => ShiftOp.footRm16 .rol rm cnt s
  | .rorRm16Cnt rm cnt => ShiftOp.footRm16 .ror rm cnt s
  | .rclRm16Cnt rm cnt => ShiftOp.footRm16 .rcl rm cnt s
  | .rcrRm16Cnt rm cnt => ShiftOp.footRm16 .rcr rm cnt s
  | .shlRm16Cnt rm cnt => ShiftOp.footRm16 .shl rm cnt s
  | .shrRm16Cnt rm cnt => ShiftOp.footRm16 .shr rm cnt s
  | .salRm16Cnt rm cnt => ShiftOp.footRm16 .sal rm cnt s
  | .sarRm16Cnt rm cnt => ShiftOp.footRm16 .sar rm cnt s
  | .retfPop _ | .retf => { words := [.sp], sregs := [.cs] }
  | .int _ => { status := true, conout := true, diag := true }
  | .rolRm8One rm => ShiftOp.footRm8 .rol rm 1 s
  | .rorRm8One rm => ShiftOp.footRm8 .ror rm 1 s
  | .rclRm8One rm => ShiftOp.footRm8 .rcl rm 1 s
  | .rcrRm8One rm => ShiftOp.footRm8 .rcr rm 1 s
  | .shlRm8One rm => ShiftOp.footRm8 .shl rm 1 s
  | .shrRm8One rm => ShiftOp.footRm8 .shr rm 1 s
  | .salRm8One rm => ShiftOp.footRm8 .sal rm 1 s
  | .sarRm8One rm => ShiftOp.footRm8 .sar rm 1 s
  | .rolRm16One rm => ShiftOp.footRm16 .rol rm 1 s
  | .rorRm16One rm => ShiftOp.footRm16 .ror rm 1 s
  | .rclRm16One rm => ShiftOp.footRm16 .rcl rm 1 s
  | .rcrRm16One rm => ShiftOp.footRm16 .rcr rm 1 s
  | .shlRm16One rm => ShiftOp.footRm16 .shl rm 1 s
  | .shrRm16One rm => ShiftOp.footRm16 .shr rm 1 s
  | .salRm16One rm => ShiftOp.footRm16 .sal rm 1 s
  | .sarRm16One rm => ShiftOp.footRm16 .sar rm 1 s
  | .rolRm8Cl rm => ShiftOp.footRm8 .rol rm (s.reg8 .cl) s
  | .rorRm8Cl rm => ShiftOp.footRm8 .ror rm (s.reg8 .cl) s
  | .rclRm8Cl rm => ShiftOp.footRm8 .rcl rm (s.reg8 .cl) s
  | .rcrRm8Cl rm => ShiftOp.footRm8 .rcr rm (s.reg8 .cl) s
  | .shlRm8Cl rm => ShiftOp.footRm8 .shl rm (s.reg8 .cl) s
  | .shrRm8Cl rm => ShiftOp.footRm8 .shr rm (s.reg8 .cl) s
  | .salRm8Cl rm => ShiftOp.footRm8 .sal rm (s.reg8 .cl) s
  | .sarRm8Cl rm => ShiftOp.footRm8 .sar rm (s.reg8 .cl) s
  | .rolRm16Cl rm => ShiftOp.footRm16 .rol rm (s.reg8 .cl) s
  | .rorRm16Cl rm => ShiftOp.footRm16 .ror rm (s.reg8 .cl) s
  | .rclRm16Cl rm => ShiftOp.footRm16 .rcl rm (s.reg8 .cl) s
  | .rcrRm16Cl rm => ShiftOp.footRm16 .rcr rm (s.reg8 .cl) s
  | .shlRm16Cl rm => ShiftOp.footRm16 .shl rm (s.reg8 .cl) s
  | .shrRm16Cl rm => ShiftOp.footRm16 .shr rm (s.reg8 .cl) s
  | .salRm16Cl rm => ShiftOp.footRm16 .sal rm (s.reg8 .cl) s
  | .sarRm16Cl rm => ShiftOp.footRm16 .sar rm (s.reg8 .cl) s
  | .aam _ | .aad _ => { words := [.ax], flags := arithFlags, diag := true, draws := true }
  | .loopne _ | .loope _ | .loop _ => { words := [.cx], flags := if s.cfg.loopWritesFlags then countFlags else [] }
  | .jmpFar _ _ => { sregs := [.cs] }
  | .hlt => { status := true }
  | .incRm8 rm | .decRm8 rm => footRm8 rm countFlags s
  | .incRm16 rm | .decRm16 rm => footRm16 rm countFlags s

/-- The r/m8 operand the instruction reads or writes before anything else (R104). A shift or rotate whose
masked count is 0 reads none (R221). -/
def Instr.operand8 (i : Instr) (s : State) : Option RM8 :=
  match i with
  | .addRm8R8 rm _ | .addR8Rm8 rm _ | .orRm8R8 rm _ | .orR8Rm8 rm _ | .adcRm8R8 rm _ | .adcR8Rm8 rm _
  | .sbbRm8R8 rm _ | .sbbR8Rm8 rm _ | .andRm8R8 rm _ | .andR8Rm8 rm _ | .subRm8R8 rm _ | .subR8Rm8 rm _
  | .xorRm8R8 rm _ | .xorR8Rm8 rm _ | .cmpRm8R8 rm _ | .cmpR8Rm8 rm _ | .addRm8Imm8 rm _
  | .orRm8Imm8 rm _ | .adcRm8Imm8 rm _ | .sbbRm8Imm8 rm _ | .andRm8Imm8 rm _ | .subRm8Imm8 rm _
  | .xorRm8Imm8 rm _ | .cmpRm8Imm8 rm _ | .movRm8R8 rm _ | .movR8Rm8 rm _ | .movRm8Imm8 rm _
  | .rolRm8One rm | .rorRm8One rm | .rclRm8One rm | .rcrRm8One rm | .shlRm8One rm | .shrRm8One rm
  | .salRm8One rm | .sarRm8One rm | .incRm8 rm | .decRm8 rm => some rm
  | .rolRm8Cnt rm cnt | .rorRm8Cnt rm cnt | .rclRm8Cnt rm cnt | .rcrRm8Cnt rm cnt | .shlRm8Cnt rm cnt
  | .shrRm8Cnt rm cnt | .salRm8Cnt rm cnt | .sarRm8Cnt rm cnt => if maskedCount cnt = 0 then none else some rm
  | .rolRm8Cl rm | .rorRm8Cl rm | .rclRm8Cl rm | .rcrRm8Cl rm | .shlRm8Cl rm | .shrRm8Cl rm
  | .salRm8Cl rm | .sarRm8Cl rm => if maskedCount (s.reg8 .cl) = 0 then none else some rm
  | .addRm16R16 _ _ | .addR16Rm16 _ _ | .addAlImm8 _ | .addAxImm16 _ | .pushEs | .popEs
  | .orRm16R16 _ _ | .orR16Rm16 _ _ | .orAlImm8 _ | .orAxImm16 _ | .pushCs | .tierXPopCs
  | .adcRm16R16 _ _ | .adcR16Rm16 _ _ | .adcAlImm8 _ | .adcAxImm16 _ | .pushSs | .popSs
  | .sbbRm16R16 _ _ | .sbbR16Rm16 _ _ | .sbbAlImm8 _ | .sbbAxImm16 _ | .pushDs | .popDs
  | .andRm16R16 _ _ | .andR16Rm16 _ _ | .andAlImm8 _ | .andAxImm16 _ | .tierXEsPrefix | .daa
  | .subRm16R16 _ _ | .subR16Rm16 _ _ | .subAlImm8 _ | .subAxImm16 _ | .tierXCsPrefix | .das
  | .xorRm16R16 _ _ | .xorR16Rm16 _ _ | .xorAlImm8 _ | .xorAxImm16 _ | .tierXSsPrefix | .aaa
  | .cmpRm16R16 _ _ | .cmpR16Rm16 _ _ | .cmpAlImm8 _ | .cmpAxImm16 _ | .tierXDsPrefix | .aas | .incAx
  | .incCx | .incDx | .incBx | .incSp | .incBp | .incSi | .incDi | .decAx | .decCx | .decDx | .decBx
  | .decSp | .decBp | .decSi | .decDi | .pushAx | .pushCx | .pushDx | .pushBx | .pushSp | .pushBp
  | .pushSi | .pushDi | .popAx | .popCx | .popDx | .popBx | .popSp | .popBp | .popSi | .popDi
  | .tierXPusha | .tierXPopa | .tierXBound | .tierXUndefined63 | .tierXUndefined64 | .tierXUndefined65
  | .tierXUndefined66 | .tierXUndefined67 | .tierXPushImm16 | .tierXImulR16Rm16Imm16 | .tierXPushImm8
  | .tierXImulR16Rm16Imm8 | .tierXInsb | .tierXInsw | .tierXOutsb | .tierXOutsw | .jo _ | .jno _
  | .jb _ | .jae _ | .je _ | .jne _ | .jbe _ | .ja _ | .js _ | .jns _ | .jp _ | .jnp _ | .jl _ | .jge _
  | .jle _ | .jg _ | .addRm16Imm16 _ _ | .orRm16Imm16 _ _ | .adcRm16Imm16 _ _ | .sbbRm16Imm16 _ _
  | .andRm16Imm16 _ _ | .subRm16Imm16 _ _ | .xorRm16Imm16 _ _ | .cmpRm16Imm16 _ _ | .tierXGroup1Alias82
  | .addRm16Simm8 _ _ | .orRm16Simm8 _ _ | .adcRm16Simm8 _ _ | .sbbRm16Simm8 _ _ | .andRm16Simm8 _ _
  | .subRm16Simm8 _ _ | .xorRm16Simm8 _ _ | .cmpRm16Simm8 _ _ | .tierXTestRm8R8 | .tierXTestRm16R16
  | .tierXXchgRm8R8 | .tierXXchgRm16R16 | .movRm16R16 _ _ | .movR16Rm16 _ _ | .movRm16Es _
  | .movRm16Cs _ | .movRm16Ss _ | .movRm16Ds _ | .tierXMovRm16Sreg4 | .tierXMovRm16Sreg5
  | .tierXMovRm16Sreg6 | .tierXMovRm16Sreg7 | .tierXLea | .movEsRm16 _ | .tierXMovCsRm16 | .movSsRm16 _
  | .movDsRm16 _ | .tierXMovSreg4Rm16 | .tierXMovSreg5Rm16 | .tierXMovSreg6Rm16 | .tierXMovSreg7Rm16
  | .popRm16 _ | .tierXUndefined8F1 | .tierXUndefined8F2 | .tierXUndefined8F3 | .tierXUndefined8F4
  | .tierXUndefined8F5 | .tierXUndefined8F6 | .tierXUndefined8F7 | .tierXNop | .tierXXchgAxCx
  | .tierXXchgAxDx | .tierXXchgAxBx | .tierXXchgAxSp | .tierXXchgAxBp | .tierXXchgAxSi | .tierXXchgAxDi
  | .tierXCbw | .tierXCwd | .callFar _ _ | .tierXWait | .tierXPushf | .tierXPopf | .tierXSahf
  | .tierXLahf | .movAlMoffs _ | .movAxMoffs _ | .movMoffsAl _ | .movMoffsAx _ | .movsb | .movsw
  | .cmpsb | .cmpsw | .tierXTestAlImm8 | .tierXTestAxImm16 | .stosb | .stosw | .lodsb | .lodsw | .scasb
  | .scasw | .movAlImm8 _ | .movClImm8 _ | .movDlImm8 _ | .movBlImm8 _ | .movAhImm8 _ | .movChImm8 _
  | .movDhImm8 _ | .movBhImm8 _ | .movAxImm16 _ | .movCxImm16 _ | .movDxImm16 _ | .movBxImm16 _
  | .movSpImm16 _ | .movBpImm16 _ | .movSiImm16 _ | .movDiImm16 _ | .rolRm16Cnt _ _ | .rorRm16Cnt _ _
  | .rclRm16Cnt _ _ | .rcrRm16Cnt _ _ | .shlRm16Cnt _ _ | .shrRm16Cnt _ _ | .salRm16Cnt _ _
  | .sarRm16Cnt _ _ | .retPop _ | .ret | .tierXLes | .tierXLds | .tierXUndefinedC61
  | .tierXUndefinedC62 | .tierXUndefinedC63 | .tierXUndefinedC64 | .tierXUndefinedC65
  | .tierXUndefinedC66 | .tierXUndefinedC67 | .movRm16Imm16 _ _ | .tierXUndefinedC71
  | .tierXUndefinedC72 | .tierXUndefinedC73 | .tierXUndefinedC74 | .tierXUndefinedC75
  | .tierXUndefinedC76 | .tierXUndefinedC77 | .tierXEnter | .tierXLeave | .retfPop _ | .retf
  | .tierXInt3 | .int _ | .tierXInto | .tierXIret | .rolRm16One _ | .rorRm16One _ | .rclRm16One _
  | .rcrRm16One _ | .shlRm16One _ | .shrRm16One _ | .salRm16One _ | .sarRm16One _ | .rolRm16Cl _
  | .rorRm16Cl _ | .rclRm16Cl _ | .rcrRm16Cl _ | .shlRm16Cl _ | .shrRm16Cl _ | .salRm16Cl _
  | .sarRm16Cl _ | .aam _ | .aad _ | .tierXSalc | .tierXXlat | .tierXEsc0 | .tierXEsc1 | .tierXEsc2
  | .tierXEsc3 | .tierXEsc4 | .tierXEsc5 | .tierXEsc6 | .tierXEsc7 | .loopne _ | .loope _ | .loop _
  | .jcxz _ | .tierXInAlImm8 | .tierXInAxImm8 | .tierXOutImm8Al | .tierXOutImm8Ax | .callNear _
  | .jmpNear _ | .jmpFar _ _ | .jmpShort _ | .tierXInAlDx | .tierXInAxDx | .tierXOutDxAl
  | .tierXOutDxAx | .tierXLockPrefix | .tierXUndefinedF1 | .tierXRepnePrefix | .tierXRepRepePrefix
  | .hlt | .tierXCmc | .tierXTestRm8 | .tierXTestAliasRm8 | .tierXNotRm8 | .tierXNegRm8 | .tierXMulRm8
  | .tierXImulRm8 | .tierXDivRm8 | .tierXIdivRm8 | .tierXTestRm16 | .tierXTestAliasRm16 | .tierXNotRm16
  | .tierXNegRm16 | .tierXMulRm16 | .tierXImulRm16 | .tierXDivRm16 | .tierXIdivRm16 | .tierXClc
  | .tierXStc | .tierXCli | .tierXSti | .tierXCld | .tierXStd | .tierXUndefinedFE2 | .tierXUndefinedFE3
  | .tierXUndefinedFE4 | .tierXUndefinedFE5 | .tierXUndefinedFE6 | .tierXUndefinedFE7 | .incRm16 _
  | .decRm16 _ | .tierXCallRm16 | .tierXCallM16m16 | .tierXJmpRm16 | .tierXJmpM16m16 | .pushRm16 _
  | .tierXUndefinedFF7 => none

/-- The r/m16 operand the instruction reads or writes before anything else (R104). A shift or rotate whose
masked count is 0 reads none (R221); POP pops first (R279). -/
def Instr.operand16 (i : Instr) (s : State) : Option RM16 :=
  match i with
  | .addRm16R16 rm _ | .addR16Rm16 rm _ | .orRm16R16 rm _ | .orR16Rm16 rm _ | .adcRm16R16 rm _
  | .adcR16Rm16 rm _ | .sbbRm16R16 rm _ | .sbbR16Rm16 rm _ | .andRm16R16 rm _ | .andR16Rm16 rm _
  | .subRm16R16 rm _ | .subR16Rm16 rm _ | .xorRm16R16 rm _ | .xorR16Rm16 rm _ | .cmpRm16R16 rm _
  | .cmpR16Rm16 rm _ | .addRm16Imm16 rm _ | .orRm16Imm16 rm _ | .adcRm16Imm16 rm _ | .sbbRm16Imm16 rm _
  | .andRm16Imm16 rm _ | .subRm16Imm16 rm _ | .xorRm16Imm16 rm _ | .cmpRm16Imm16 rm _
  | .addRm16Simm8 rm _ | .orRm16Simm8 rm _ | .adcRm16Simm8 rm _ | .sbbRm16Simm8 rm _
  | .andRm16Simm8 rm _ | .subRm16Simm8 rm _ | .xorRm16Simm8 rm _ | .cmpRm16Simm8 rm _
  | .movRm16R16 rm _ | .movR16Rm16 rm _ | .movRm16Es rm | .movRm16Cs rm | .movRm16Ss rm | .movRm16Ds rm
  | .movEsRm16 rm | .movSsRm16 rm | .movDsRm16 rm | .movRm16Imm16 rm _ | .rolRm16One rm
  | .rorRm16One rm | .rclRm16One rm | .rcrRm16One rm | .shlRm16One rm | .shrRm16One rm | .salRm16One rm
  | .sarRm16One rm | .incRm16 rm | .decRm16 rm | .pushRm16 rm => some rm
  | .rolRm16Cnt rm cnt | .rorRm16Cnt rm cnt | .rclRm16Cnt rm cnt | .rcrRm16Cnt rm cnt
  | .shlRm16Cnt rm cnt | .shrRm16Cnt rm cnt | .salRm16Cnt rm cnt | .sarRm16Cnt rm cnt => if maskedCount cnt = 0 then none else some rm
  | .rolRm16Cl rm | .rorRm16Cl rm | .rclRm16Cl rm | .rcrRm16Cl rm | .shlRm16Cl rm | .shrRm16Cl rm
  | .salRm16Cl rm | .sarRm16Cl rm => if maskedCount (s.reg8 .cl) = 0 then none else some rm
  | .addRm8R8 _ _ | .addR8Rm8 _ _ | .addAlImm8 _ | .addAxImm16 _ | .pushEs | .popEs | .orRm8R8 _ _
  | .orR8Rm8 _ _ | .orAlImm8 _ | .orAxImm16 _ | .pushCs | .tierXPopCs | .adcRm8R8 _ _ | .adcR8Rm8 _ _
  | .adcAlImm8 _ | .adcAxImm16 _ | .pushSs | .popSs | .sbbRm8R8 _ _ | .sbbR8Rm8 _ _ | .sbbAlImm8 _
  | .sbbAxImm16 _ | .pushDs | .popDs | .andRm8R8 _ _ | .andR8Rm8 _ _ | .andAlImm8 _ | .andAxImm16 _
  | .tierXEsPrefix | .daa | .subRm8R8 _ _ | .subR8Rm8 _ _ | .subAlImm8 _ | .subAxImm16 _
  | .tierXCsPrefix | .das | .xorRm8R8 _ _ | .xorR8Rm8 _ _ | .xorAlImm8 _ | .xorAxImm16 _
  | .tierXSsPrefix | .aaa | .cmpRm8R8 _ _ | .cmpR8Rm8 _ _ | .cmpAlImm8 _ | .cmpAxImm16 _
  | .tierXDsPrefix | .aas | .incAx | .incCx | .incDx | .incBx | .incSp | .incBp | .incSi | .incDi
  | .decAx | .decCx | .decDx | .decBx | .decSp | .decBp | .decSi | .decDi | .pushAx | .pushCx | .pushDx
  | .pushBx | .pushSp | .pushBp | .pushSi | .pushDi | .popAx | .popCx | .popDx | .popBx | .popSp
  | .popBp | .popSi | .popDi | .tierXPusha | .tierXPopa | .tierXBound | .tierXUndefined63
  | .tierXUndefined64 | .tierXUndefined65 | .tierXUndefined66 | .tierXUndefined67 | .tierXPushImm16
  | .tierXImulR16Rm16Imm16 | .tierXPushImm8 | .tierXImulR16Rm16Imm8 | .tierXInsb | .tierXInsw
  | .tierXOutsb | .tierXOutsw | .jo _ | .jno _ | .jb _ | .jae _ | .je _ | .jne _ | .jbe _ | .ja _
  | .js _ | .jns _ | .jp _ | .jnp _ | .jl _ | .jge _ | .jle _ | .jg _ | .addRm8Imm8 _ _
  | .orRm8Imm8 _ _ | .adcRm8Imm8 _ _ | .sbbRm8Imm8 _ _ | .andRm8Imm8 _ _ | .subRm8Imm8 _ _
  | .xorRm8Imm8 _ _ | .cmpRm8Imm8 _ _ | .tierXGroup1Alias82 | .tierXTestRm8R8 | .tierXTestRm16R16
  | .tierXXchgRm8R8 | .tierXXchgRm16R16 | .movRm8R8 _ _ | .movR8Rm8 _ _ | .tierXMovRm16Sreg4
  | .tierXMovRm16Sreg5 | .tierXMovRm16Sreg6 | .tierXMovRm16Sreg7 | .tierXLea | .tierXMovCsRm16
  | .tierXMovSreg4Rm16 | .tierXMovSreg5Rm16 | .tierXMovSreg6Rm16 | .tierXMovSreg7Rm16 | .popRm16 _
  | .tierXUndefined8F1 | .tierXUndefined8F2 | .tierXUndefined8F3 | .tierXUndefined8F4
  | .tierXUndefined8F5 | .tierXUndefined8F6 | .tierXUndefined8F7 | .tierXNop | .tierXXchgAxCx
  | .tierXXchgAxDx | .tierXXchgAxBx | .tierXXchgAxSp | .tierXXchgAxBp | .tierXXchgAxSi | .tierXXchgAxDi
  | .tierXCbw | .tierXCwd | .callFar _ _ | .tierXWait | .tierXPushf | .tierXPopf | .tierXSahf
  | .tierXLahf | .movAlMoffs _ | .movAxMoffs _ | .movMoffsAl _ | .movMoffsAx _ | .movsb | .movsw
  | .cmpsb | .cmpsw | .tierXTestAlImm8 | .tierXTestAxImm16 | .stosb | .stosw | .lodsb | .lodsw | .scasb
  | .scasw | .movAlImm8 _ | .movClImm8 _ | .movDlImm8 _ | .movBlImm8 _ | .movAhImm8 _ | .movChImm8 _
  | .movDhImm8 _ | .movBhImm8 _ | .movAxImm16 _ | .movCxImm16 _ | .movDxImm16 _ | .movBxImm16 _
  | .movSpImm16 _ | .movBpImm16 _ | .movSiImm16 _ | .movDiImm16 _ | .rolRm8Cnt _ _ | .rorRm8Cnt _ _
  | .rclRm8Cnt _ _ | .rcrRm8Cnt _ _ | .shlRm8Cnt _ _ | .shrRm8Cnt _ _ | .salRm8Cnt _ _ | .sarRm8Cnt _ _
  | .retPop _ | .ret | .tierXLes | .tierXLds | .movRm8Imm8 _ _ | .tierXUndefinedC61
  | .tierXUndefinedC62 | .tierXUndefinedC63 | .tierXUndefinedC64 | .tierXUndefinedC65
  | .tierXUndefinedC66 | .tierXUndefinedC67 | .tierXUndefinedC71 | .tierXUndefinedC72
  | .tierXUndefinedC73 | .tierXUndefinedC74 | .tierXUndefinedC75 | .tierXUndefinedC76
  | .tierXUndefinedC77 | .tierXEnter | .tierXLeave | .retfPop _ | .retf | .tierXInt3 | .int _
  | .tierXInto | .tierXIret | .rolRm8One _ | .rorRm8One _ | .rclRm8One _ | .rcrRm8One _ | .shlRm8One _
  | .shrRm8One _ | .salRm8One _ | .sarRm8One _ | .rolRm8Cl _ | .rorRm8Cl _ | .rclRm8Cl _ | .rcrRm8Cl _
  | .shlRm8Cl _ | .shrRm8Cl _ | .salRm8Cl _ | .sarRm8Cl _ | .aam _ | .aad _ | .tierXSalc | .tierXXlat
  | .tierXEsc0 | .tierXEsc1 | .tierXEsc2 | .tierXEsc3 | .tierXEsc4 | .tierXEsc5 | .tierXEsc6
  | .tierXEsc7 | .loopne _ | .loope _ | .loop _ | .jcxz _ | .tierXInAlImm8 | .tierXInAxImm8
  | .tierXOutImm8Al | .tierXOutImm8Ax | .callNear _ | .jmpNear _ | .jmpFar _ _ | .jmpShort _
  | .tierXInAlDx | .tierXInAxDx | .tierXOutDxAl | .tierXOutDxAx | .tierXLockPrefix | .tierXUndefinedF1
  | .tierXRepnePrefix | .tierXRepRepePrefix | .hlt | .tierXCmc | .tierXTestRm8 | .tierXTestAliasRm8
  | .tierXNotRm8 | .tierXNegRm8 | .tierXMulRm8 | .tierXImulRm8 | .tierXDivRm8 | .tierXIdivRm8
  | .tierXTestRm16 | .tierXTestAliasRm16 | .tierXNotRm16 | .tierXNegRm16 | .tierXMulRm16
  | .tierXImulRm16 | .tierXDivRm16 | .tierXIdivRm16 | .tierXClc | .tierXStc | .tierXCli | .tierXSti
  | .tierXCld | .tierXStd | .incRm8 _ | .decRm8 _ | .tierXUndefinedFE2 | .tierXUndefinedFE3
  | .tierXUndefinedFE4 | .tierXUndefinedFE5 | .tierXUndefinedFE6 | .tierXUndefinedFE7 | .tierXCallRm16
  | .tierXCallM16m16 | .tierXJmpRm16 | .tierXJmpM16m16 | .tierXUndefinedFF7 => none

end Sys2Proof
end

