-- ==== Sys2Proof/Certificates/Slice0/Obligations.lean ====
section
/-! DEFINITION. The statements about the machine. Each docstring names the rule of spec/ it formalises. -/

section

open Sys2Proof Sys2Proof.Machine

/-! ### Encoding -/

/-- R90 to R97, R107, R110 to R115: every well-formed instruction is decoded from its own bytes, whatever
bytes follow. -/
def Obligations.DecodeOfEncode : Prop :=
  ∀ (i : Instr) (rest : List Byte), i.wf = true → decode (encode i ++ rest) = .ok (i, rest)

/-- R90 to R97, R121: a recognized instruction that was decoded is well formed, and the bytes it was decoded
from are its own. -/
def Obligations.EncodeOfDecode : Prop :=
  ∀ (bytes : List Byte) (i : Instr) (rest : List Byte),
    decode bytes = .ok (i, rest) → i.family ≠ .unrecognized →
      i.wf = true ∧ bytes = encode i ++ rest

/-- R115, R127, R350: an unrecognized instruction is one opcode byte, or an opcode byte and a ModR/M byte of
which only the reg field matters. That exactly one ModR/M byte is consumed, where R127 says at least that byte,
and that the encoder writes 0 for its mode and r/m fields, are the model's choice (DESIGN CHOICE,
notes/assumptions/15.md). -/
def Obligations.UnrecognizedDecodeKeepsSelector : Prop :=
  ∀ (bytes : List Byte) (i : Instr) (rest : List Byte),
    decode bytes = .ok (i, rest) → i.family = .unrecognized →
      (∃ op, encode i = [op] ∧ bytes = op :: rest) ∨
        ∃ op b, encode i = [op, modRMByte 0 (regField b) 0] ∧ bytes = op :: b :: rest

/-- R90, R93, R121: any six bytes begin with an instruction, of 1 to 6 bytes. -/
def Obligations.SixBytesDecode : Prop :=
  ∀ bytes : List Byte, 6 ≤ bytes.length →
    ∃ i n, 1 ≤ n ∧ n ≤ 6 ∧ decode bytes = .ok (i, bytes.drop n)

/-- The words the spec writes out in its examples, one or more of each family. -/
def Obligations.SampleWordsDecode : Prop :=
  decode [0x00, 0xD8] = .ok (.addRm8R8 (.reg .al) .bl, []) ∧
  decode [0x83, 0xE0, 0xF0] = .ok (.andRm16Simm8 (.reg .ax) 0xF0, []) ∧
  decode [0x3C, 0x05] = .ok (.cmpAlImm8 5, []) ∧
  decode [0x49] = .ok (.decCx, []) ∧
  decode [0x8A, 0x07] = .ok (.movR8Rm8 (.mem (.base .bx)) .al, []) ∧
  decode [0xC7, 0x06, 0x00, 0x02, 0x34, 0x12] = .ok (.movRm16Imm16 (.mem (.direct 0x0200)) 0x1234, []) ∧
  decode [0x8E, 0xD0] = .ok (.movSsRm16 (.reg .ax), []) ∧
  decode [0xA1, 0x00, 0x02] = .ok (.movAxMoffs 0x0200, []) ∧
  decode [0x27] = .ok (.daa, []) ∧
  decode [0xD4, 0x0A] = .ok (.aam 10, []) ∧
  decode [0xD0, 0xC0] = .ok (.rolRm8One (.reg .al), []) ∧
  decode [0xD2, 0xE1] = .ok (.shlRm8Cl (.reg .cl), []) ∧
  decode [0xA4] = .ok (.movsb, []) ∧
  decode [0xFF, 0x36, 0x00, 0x02] = .ok (.pushRm16 (.mem (.direct 0x0200)), []) ∧
  decode [0x8F, 0x06, 0x00, 0x02] = .ok (.popRm16 (.mem (.direct 0x0200)), []) ∧
  decode [0x75, 0xFE] = .ok (.jne 0xFE, []) ∧
  decode [0xEA, 0x00, 0x01, 0x00, 0x00] = .ok (.jmpFar 0x0100 0, []) ∧
  decode [0xE8, 0x0D, 0x00] = .ok (.callNear 0x000D, []) ∧
  decode [0xCA, 0x02, 0x00] = .ok (.retfPop 2, []) ∧
  decode [0xE2, 0xFC] = .ok (.loop 0xFC, []) ∧
  decode [0xCD, 0x21] = .ok (.int 0x21, []) ∧
  decode [0xF4] = .ok (.hlt, []) ∧
  decode [0x0F] = .ok (.tierXPopCs, []) ∧
  decode [0xF7, 0xE3] = .ok (.tierXMulRm16, [])

/-! ### Addresses and memory -/

/-- R96 to R99: the segment and the offset of every memory operand; the sum is taken modulo 2^16. -/
def Obligations.EffectiveAddress : Prop :=
  ∀ (s : State) (b : Base) (d8 : Byte) (d16 off : Word),
    let seg := if b ∈ [.bpSi, .bpDi, .bp] then s.ss else s.ds
    let sum : Int :=
      match b with
      | .bxSi => s.bx.toNat + s.si.toNat
      | .bxDi => s.bx.toNat + s.di.toNat
      | .bpSi => s.bp.toNat + s.si.toNat
      | .bpDi => s.bp.toNat + s.di.toNat
      | .si => s.si.toNat
      | .di => s.di.toNat
      | .bp => s.bp.toNat
      | .bx => s.bx.toNat
    s.resolve (.direct off) = (s.ds, off) ∧
    s.resolve (.base b) = (seg, BitVec.ofInt 16 sum) ∧
    s.resolve (.disp8 b d8) = (seg, BitVec.ofInt 16 (sum + d8.toInt)) ∧
    s.resolve (.disp16 b d16) = (seg, BitVec.ofInt 16 (sum + d16.toNat))

/-- R61, R62: the two address models. In the first, distinct pairs have distinct addresses, and an address
is in the store exactly when the segment is at most 15; in the second, every address is in the store. -/
def Obligations.AddressFormation : Prop :=
  ∀ seg off seg' off' : Word,
    phys .banked64k seg off = seg.toNat * 65536 + off.toNat ∧
    phys .real8086 seg off = (seg.toNat * 16 + off.toNat) % 1048576 ∧
    (phys .banked64k seg off < 1048576 ↔ seg.toNat ≤ 15) ∧
    phys .real8086 seg off < 1048576 ∧
    (phys .banked64k seg off = phys .banked64k seg' off' → seg = seg' ∧ off = off')

/-- R62 to R64, R66, R67: what a read of memory gives and when it faults. The second byte of a word is at the next
physical address, under REAL8086 modulo 2^20 as every address there (R61, R62); that R64's `phys(seg, off) + 1` is
so read is the model's choice (DEDUCED, notes/assumptions/9.md). -/
def Obligations.MemoryReadValuesAndFaults : Prop :=
  ∀ (s : State) (seg off : Word),
    let first := s.phys seg off
    let second := if s.cfg.addrModel = .real8086 then (first + 1) % 1048576 else first + 1
    (first < 1048576 → s.memRead8 seg off = .ok (s.mem.read first)) ∧
    (1048576 ≤ first → s.memRead8 seg off = .error .memBounds) ∧
    (off = 0xFFFF → s.memRead16 seg off = .error .segmentWrap) ∧
    (off ≠ 0xFFFF → 1048576 ≤ second → s.memRead16 seg off = .error .memBounds) ∧
    (off ≠ 0xFFFF → second < 1048576 →
      ∃ v, s.memRead16 seg off = .ok v ∧
        v.toNat = (s.mem.read second).toNat * 256 + (s.mem.read first).toNat)

/-- R62, R63, R65 to R67: a write changes exactly the named bytes and nothing else, or faults and changes nothing.
The second byte of a word is where a read finds it (DEDUCED under REAL8086, notes/assumptions/9.md). -/
def Obligations.MemoryWritesChangeOnlyTheirBytes : Prop :=
  ∀ (s : State) (seg off : Word) (b : Byte) (v : Word), s.mem.wf = true →
    let first := s.phys seg off
    let second := if s.cfg.addrModel = .real8086 then (first + 1) % 1048576 else first + 1
    (first < 1048576 →
      ∃ m, s.memWrite8 seg off b = .ok (s.withMem m) ∧
        ∀ a, m.read a = if a = first then b else s.mem.read a) ∧
    (1048576 ≤ first → s.memWrite8 seg off b = .error .memBounds) ∧
    (off = 0xFFFF → s.memWrite16 seg off v = .error .segmentWrap) ∧
    (off ≠ 0xFFFF → 1048576 ≤ second → s.memWrite16 seg off v = .error .memBounds) ∧
    (off ≠ 0xFFFF → second < 1048576 →
      ∃ m, s.memWrite16 seg off v = .ok (s.withMem m) ∧
        ∀ a, m.read a =
          if a = first then v.setWidth 8
          else if a = second then (v >>> 8).setWidth 8
          else s.mem.read a)

/-- R67, R63: a word access at any offset but 0xFFFF, odd or even, is two byte accesses, the low byte at the
lower offset, in both address models. -/
def Obligations.WordAccessIsTwoByteAccesses : Prop :=
  ∀ (s : State) (seg off v : Word), off ≠ 0xFFFF →
    (s.memRead16 seg off =
      (s.memRead8 seg (off + 1)).bind fun hi => (s.memRead8 seg off).map fun lo => hi ++ lo) ∧
    (s.memWrite16 seg off v =
      (s.memWrite8 seg off (v.setWidth 8)).bind fun t =>
        t.memWrite8 seg (off + 1) ((v >>> 8).setWidth 8))

/-- R60: the store is its bytes. Two stores in canonical form that read the same everywhere are equal. The
canonical form is the model's (notes/assumptions/14.md). -/
def Obligations.CanonicalMemoriesAreEqual : Prop :=
  ∀ m n : Memory, m.wf = true → n.wf = true → (∀ a, m.read a = n.read a) → m = n

/-- R21: the byte registers are the halves of AX, BX, CX and DX; a write of one changes it alone, and a
write of a word register changes both its halves. -/
def Obligations.RegisterHalvesShareStorage : Prop :=
  ∀ s : State,
    s.ax = s.reg8 .ah ++ s.reg8 .al ∧ s.bx = s.reg8 .bh ++ s.reg8 .bl ∧
    s.cx = s.reg8 .ch ++ s.reg8 .cl ∧ s.dx = s.reg8 .dh ++ s.reg8 .dl ∧
    (∀ r v q, (s.setReg8 r v).reg8 q = if q = r then v else s.reg8 q) ∧
    (∀ r v q, r.parent ≠ q → (s.setReg8 r v).reg16 q = s.reg16 q) ∧
    (∀ r v q, (s.setReg16 r v).reg16 q = if q = r then v else s.reg16 q) ∧
    (∀ r v q, q.parent ≠ r → (s.setReg16 r v).reg8 q = s.reg8 q)

/-! ### The ALU/Flags Engine -/

/-- R160, R161, R163, R165: the add path at widths 8 and 16, which ADD takes without a carry (R170) and ADC
with CF (R172). AF as the carry out of bit 3 is the spec's own reading of its source (R165); OF is in terms
of the signed range. -/
def Obligations.AddFlagsMeaning : Prop :=
  ∀ w, w = 8 ∨ w = 16 → ∀ (a b : BitVec w) (c : Bool) (fl : Word),
    (addFlags a b c fl).1 = BitVec.ofNat w (a.toNat + b.toNat + c.toNat) ∧
    AddFlagsHold a b c fl (addFlags a b c fl).2 ∧
    AluOp.add.compute a b fl = addFlags a b false fl ∧
    AluOp.adc.compute a b fl = addFlags a b (fl.getLsbD 0) fl

/-- R160, R162, R163, R165: the subtract path at widths 8 and 16, which SUB (R175) and CMP (R177) take without a
borrow and SBB (R173) with CF; CMP alone discards the result (R166, R177). AF as the borrow from bit 4 is the
spec's own reading of its source (R165); OF is in terms of the signed range. -/
def Obligations.SubFlagsMeaning : Prop :=
  ∀ w, w = 8 ∨ w = 16 → ∀ (a b : BitVec w) (c : Bool) (fl : Word),
    (subFlags a b c fl).1 = BitVec.ofInt w (a.toNat - b.toNat - c.toNat) ∧
    SubFlagsHold a b c fl (subFlags a b c fl).2 ∧
    AluOp.sub.compute a b fl = subFlags a b false fl ∧
    AluOp.cmp.compute a b fl = subFlags a b false fl ∧
    AluOp.sbb.compute a b fl = subFlags a b (fl.getLsbD 0) fl ∧
    ∀ op : AluOp, op.writes = false ↔ op = .cmp

/-- R164: OR, AND and XOR clear CF, AF and OF and take ZF, SF and PF from the result. -/
def Obligations.LogicFlagsMeaning : Prop :=
  ∀ w, w = 8 ∨ w = 16 → ∀ (a b : BitVec w) (fl : Word),
    (AluOp.or.compute a b fl).1 = a ||| b ∧ LogicFlagsHold (a ||| b) fl (AluOp.or.compute a b fl).2 ∧
    (AluOp.and.compute a b fl).1 = a &&& b ∧ LogicFlagsHold (a &&& b) fl (AluOp.and.compute a b fl).2 ∧
    (AluOp.xor.compute a b fl).1 = a ^^^ b ∧ LogicFlagsHold (a ^^^ b) fl (AluOp.xor.compute a b fl).2

/-- R166, R170 to R177: the byte forms of the eight two-operand instructions complete whenever their r/m
operand can be read, with the result at the destination and the flags of the operation. -/
def Obligations.AluByteForms : Prop :=
  ∀ (op : AluOp) (s : State), s.inv = true →
    (∀ rm r left, s.readRM8 rm = .ok left →
      ∃ t, exec (op.rm8R8 rm r) s = .next t ∧ op.Leaves8 (s.locate rm) left (s.reg8 r) s t) ∧
    (∀ rm imm left, s.readRM8 rm = .ok left →
      ∃ t, exec (op.rm8Imm8 rm imm) s = .next t ∧ op.Leaves8 (s.locate rm) left imm s t) ∧
    (∀ rm r right, s.readRM8 rm = .ok right →
      ∃ t, exec (op.r8Rm8 rm r) s = .next t ∧ op.Leaves8 (.reg r) (s.reg8 r) right s t) ∧
    (∀ imm, ∃ t, exec (op.alImm8 imm) s = .next t ∧ op.Leaves8 (.reg .al) (s.reg8 .al) imm s t)

/-- R166, R170 to R177: the same for the word forms; opcode 83 sign-extends its byte. -/
def Obligations.AluWordForms : Prop :=
  ∀ (op : AluOp) (s : State), s.inv = true →
    (∀ rm r left, s.readRM16 rm = .ok left →
      ∃ t, exec (op.rm16R16 rm r) s = .next t ∧ op.Leaves16 (s.locate rm) left (s.reg16 r) s t) ∧
    (∀ rm imm left, s.readRM16 rm = .ok left →
      ∃ t, exec (op.rm16Imm16 rm imm) s = .next t ∧ op.Leaves16 (s.locate rm) left imm s t) ∧
    (∀ rm (imm : Byte) left, s.readRM16 rm = .ok left →
      ∃ t, exec (op.rm16Simm8 rm imm) s = .next t ∧
        op.Leaves16 (s.locate rm) left (BitVec.ofInt 16 imm.toInt) s t) ∧
    (∀ rm r right, s.readRM16 rm = .ok right →
      ∃ t, exec (op.r16Rm16 rm r) s = .next t ∧ op.Leaves16 (.reg r) (s.reg16 r) right s t) ∧
    (∀ imm, ∃ t, exec (op.axImm16 imm) s = .next t ∧ op.Leaves16 (.reg .ax) (s.reg16 .ax) imm s t)

/-- R178, R179: INC and DEC in all their forms, which keep CF. -/
def Obligations.IncDecForms : Prop :=
  ∀ s : State, s.inv = true →
    (∀ r : Reg16, ∃ t, exec r.inc s = .next t ∧
      IncDec.inc.Leaves (s.reg16 r) (t.reg16 r) s.flags t.flags) ∧
    (∀ r : Reg16, ∃ t, exec r.dec s = .next t ∧
      IncDec.dec.Leaves (s.reg16 r) (t.reg16 r) s.flags t.flags) ∧
    (∀ rm v, s.readRM8 rm = .ok v → ∃ t res, exec (.incRm8 rm) s = .next t ∧
      t.readLoc8 (s.locate rm) = .ok res ∧ IncDec.inc.Leaves v res s.flags t.flags) ∧
    (∀ rm v, s.readRM8 rm = .ok v → ∃ t res, exec (.decRm8 rm) s = .next t ∧
      t.readLoc8 (s.locate rm) = .ok res ∧ IncDec.dec.Leaves v res s.flags t.flags) ∧
    (∀ rm v, s.readRM16 rm = .ok v → ∃ t res, exec (.incRm16 rm) s = .next t ∧
      t.readLoc16 (s.locate rm) = .ok res ∧ IncDec.inc.Leaves v res s.flags t.flags) ∧
    (∀ rm v, s.readRM16 rm = .ok v → ∃ t res, exec (.decRm16 rm) s = .next t ∧
      t.readLoc16 (s.locate rm) = .ok res ∧ IncDec.dec.Leaves v res s.flags t.flags)

/-! ### Data movement -/

/-- R141, R144, R145, R148: a MOV to the r/m operand, or to DS:moffs16, completes whenever the destination
can be accessed, and leaves the source there. -/
def Obligations.MovStores : Prop :=
  ∀ s : State, s.inv = true →
    (∀ rm old, s.readRM8 rm = .ok old →
      (∀ r, ∃ t, exec (.movRm8R8 rm r) s = .next t ∧ t.readLoc8 (s.locate rm) = .ok (s.reg8 r)) ∧
      ∀ imm, ∃ t, exec (.movRm8Imm8 rm imm) s = .next t ∧ t.readLoc8 (s.locate rm) = .ok imm) ∧
    (∀ rm old, s.readRM16 rm = .ok old →
      (∀ r, ∃ t, exec (.movRm16R16 rm r) s = .next t ∧ t.readLoc16 (s.locate rm) = .ok (s.reg16 r)) ∧
      (∀ imm, ∃ t, exec (.movRm16Imm16 rm imm) s = .next t ∧ t.readLoc16 (s.locate rm) = .ok imm) ∧
      ∀ r : SReg, ∃ t, exec (r.movTo rm) s = .next t ∧ t.readLoc16 (s.locate rm) = .ok (s.sreg r)) ∧
    (∀ off old, s.memRead8 s.ds off = .ok old →
      ∃ t, exec (.movMoffsAl off) s = .next t ∧ t.memRead8 s.ds off = .ok (s.reg8 .al)) ∧
    (∀ off old, s.memRead16 s.ds off = .ok old →
      ∃ t, exec (.movMoffsAx off) s = .next t ∧ t.memRead16 s.ds off = .ok s.ax)

/-- R142, R143, R147: a MOV to a general register writes the source to it and changes nothing else. -/
def Obligations.MovLoads : Prop :=
  ∀ s : State,
    (∀ rm r v, s.readRM8 rm = .ok v → exec (.movR8Rm8 rm r) s = .next (s.setReg8 r v)) ∧
    (∀ rm r v, s.readRM16 rm = .ok v → exec (.movR16Rm16 rm r) s = .next (s.setReg16 r v)) ∧
    (∀ (r : Reg8) imm, exec (r.movImm imm) s = .next (s.setReg8 r imm)) ∧
    (∀ (r : Reg16) imm, exec (r.movImm imm) s = .next (s.setReg16 r imm)) ∧
    (∀ off v, s.memRead8 s.ds off = .ok v → exec (.movAlMoffs off) s = .next (s.setReg8 .al v)) ∧
    (∀ off v, s.memRead16 s.ds off = .ok v → exec (.movAxMoffs off) s = .next { s with ax := v })

/-- R146, R34: a MOV to ES, SS or DS writes that register; a write of SS also sets INTDELAY to 2, which is 1
when the instruction has ended. -/
def Obligations.MovToSegmentRegister : Prop :=
  ∀ (s : State) rm v, s.readRM16 rm = .ok v →
    exec (.movEsRm16 rm) s = .next { s with es := v } ∧
    exec (.movDsRm16 rm) s = .next { s with ds := v } ∧
    exec (.movSsRm16 rm) s = .next { s with ss := v, intDelay := 2 } ∧
    ({ s with ss := v, intDelay := 2 } : State).endInstruction.intDelay = 1

/-- R62, R66, R147, R148, R166, R226: an instruction whose r/m operand, or whose operand at a direct offset in
DS, cannot be accessed faults as the access does. -/
def Obligations.OperandFaults : Prop :=
  ∀ (i : Instr) (s : State) (f : Fault),
    (∀ rm, i.operand8 s = some rm → s.readRM8 rm = .error f → exec i s = .fault f) ∧
    (∀ rm, i.operand16 s = some rm → s.readRM16 rm = .error f → exec i s = .fault f) ∧
    (∀ off, s.memRead8 s.ds off = .error f →
      exec (.movAlMoffs off) s = .fault f ∧ exec (.movMoffsAl off) s = .fault f) ∧
    (∀ off, s.memRead16 s.ds off = .error f →
      exec (.movAxMoffs off) s = .fault f ∧ exec (.movMoffsAx off) s = .fault f)

/-! ### BCD -/

/-- R201, R202: DAA and DAS correct AL and set CF and AF; ZF, SF and PF are those of the final AL. -/
def Obligations.DecimalAdjust : Prop :=
  ∀ s : State,
    let al := (s.reg8 .al).toNat
    let low := decide (9 < al % 16) || s.flags.getLsbD 4
    let high := decide (0x99 < al) || s.flags.getLsbD 0
    (∃ t, exec .daa s = .next t ∧
      (t.reg8 .al).toNat = (al + (if low then 6 else 0) + (if high then 0x60 else 0)) % 256 ∧
      t.flags.getLsbD 0 = high ∧ t.flags.getLsbD 4 = low ∧ ResultFlags (t.reg8 .al) t.flags) ∧
    (∃ t, exec .das s = .next t ∧
      (t.reg8 .al).toNat = (al + 256 - (if low then 6 else 0) - (if high then 0x60 else 0)) % 256 ∧
      t.flags.getLsbD 0 = (high || (low && (s.flags.getLsbD 0 || decide (al < 6)))) ∧
      t.flags.getLsbD 4 = low ∧ ResultFlags (t.reg8 .al) t.flags)

/-- R203, R204: AAA and AAS correct AL and AH; CF and AF say whether they did. -/
def Obligations.AsciiAdjust : Prop :=
  ∀ s : State,
    let al := (s.reg8 .al).toNat
    let ah := (s.reg8 .ah).toNat
    let low := decide (9 < al % 16) || s.flags.getLsbD 4
    (∃ t, exec .aaa s = .next t ∧
      (t.reg8 .al).toNat = (al + if low then 6 else 0) % 16 ∧
      (t.reg8 .ah).toNat = (ah + if low && s.cfg.aaaAdjustsAh then 1 else 0) % 256 ∧
      t.flags.getLsbD 0 = low ∧ t.flags.getLsbD 4 = low ∧ ResultFlags (t.reg8 .al) t.flags) ∧
    (∃ t, exec .aas s = .next t ∧
      (t.reg8 .al).toNat = (al + 16 - if low then 6 else 0) % 16 ∧
      (t.reg8 .ah).toNat = (ah + 256 - if low then 1 else 0) % 256 ∧
      t.flags.getLsbD 0 = low ∧ t.flags.getLsbD 4 = low ∧ ResultFlags (t.reg8 .al) t.flags)

/-- R205, R206: AAM splits AL and AAD folds AH into AL, in the base of the instruction; a base other than 10
is logged; AAM with base 0 faults. -/
def Obligations.BaseConversion : Prop :=
  ∀ (s : State) (base : Byte),
    let al := (s.reg8 .al).toNat
    let ah := (s.reg8 .ah).toNat
    let log := s.diag ++ if base = 10 then [] else [DiagEvent.unusualBase base]
    (base ≠ 0 → ∃ t, exec (.aam base) s = .next t ∧
      (t.reg8 .ah).toNat = al / base.toNat ∧ (t.reg8 .al).toNat = al % base.toNat ∧
      ResultFlags (t.reg8 .al) t.flags ∧ t.diag = log) ∧
    (base = 0 → exec (.aam base) s = .fault .divideByZero) ∧
    (∃ t, exec (.aad base) s = .next t ∧
      (t.reg8 .al).toNat = (al + ah * base.toNat) % 256 ∧ t.reg8 .ah = 0 ∧
      ResultFlags (t.reg8 .al) t.flags ∧ t.diag = log)

/-! ### The Shift/Rotate Engine -/

/-- R221, R222, R226: every shift and rotate, by 1, by CL and by an immediate count. A count of 0 modulo 32
changes nothing; any other completes whenever the operand can be read, with the result and the flags of as
many steps as the count modulo 32. -/
def Obligations.ShiftForms : Prop :=
  ∀ (op : ShiftOp) (s : State), s.inv = true →
    (∀ rm v, s.readRM8 rm = .ok v →
      ∃ t res, exec (op.rm8One rm) s = .next t ∧ t.readLoc8 (s.locate rm) = .ok res ∧
        op.Leaves v 1 res s.flags t.flags) ∧
    (∀ rm v, s.readRM16 rm = .ok v →
      ∃ t res, exec (op.rm16One rm) s = .next t ∧ t.readLoc16 (s.locate rm) = .ok res ∧
        op.Leaves v 1 res s.flags t.flags) ∧
    (∀ rm8 rm16 count, count.toNat % 32 = 0 →
      exec (op.rm8Cnt rm8 count) s = .next s ∧ exec (op.rm16Cnt rm16 count) s = .next s) ∧
    (∀ rm v count, count.toNat % 32 ≠ 0 → s.readRM8 rm = .ok v →
      ∃ t res, exec (op.rm8Cnt rm count) s = .next t ∧ t.readLoc8 (s.locate rm) = .ok res ∧
        op.Leaves v count res s.flags t.flags) ∧
    (∀ rm v count, count.toNat % 32 ≠ 0 → s.readRM16 rm = .ok v →
      ∃ t res, exec (op.rm16Cnt rm count) s = .next t ∧ t.readLoc16 (s.locate rm) = .ok res ∧
        op.Leaves v count res s.flags t.flags) ∧
    (∀ rm8 rm16, (s.reg8 .cl).toNat % 32 = 0 →
      exec (op.rm8Cl rm8) s = .next s ∧ exec (op.rm16Cl rm16) s = .next s) ∧
    (∀ rm v, (s.reg8 .cl).toNat % 32 ≠ 0 → s.readRM8 rm = .ok v →
      ∃ t res, exec (op.rm8Cl rm) s = .next t ∧ t.readLoc8 (s.locate rm) = .ok res ∧
        op.Leaves v (s.reg8 .cl) res s.flags t.flags) ∧
    (∀ rm v, (s.reg8 .cl).toNat % 32 ≠ 0 → s.readRM16 rm = .ok v →
      ∃ t res, exec (op.rm16Cl rm) s = .next t ∧ t.readLoc16 (s.locate rm) = .ok res ∧
        op.Leaves v (s.reg8 .cl) res s.flags t.flags)

/-- R230, R231: ROL and ROR rotate the operand; CF is its new bit 0, or its new top bit. -/
def Obligations.RotatesRotate : Prop :=
  ∀ w, w = 8 ∨ w = 16 → ∀ (v : BitVec w) (c : Bool) (n : Nat), 0 < n →
    ShiftOp.rol.steps n v c = (v.rotateLeft n, (v.rotateLeft n).getLsbD 0) ∧
    ShiftOp.ror.steps n v c = (v.rotateRight n, (v.rotateRight n).getLsbD (w - 1))

/-- R223, R232, R233: RCL and RCR rotate the operand with CF above its top bit, for any count. -/
def Obligations.CarryRotatesRotate : Prop :=
  ∀ w, w = 8 ∨ w = 16 → ∀ (v : BitVec w) (c : Bool) (n : Nat),
    (let r := ShiftOp.rcl.steps n v c
     BitVec.ofBool r.2 ++ r.1 = (BitVec.ofBool c ++ v).rotateLeft n) ∧
    (let r := ShiftOp.rcr.steps n v c
     BitVec.ofBool r.2 ++ r.1 = (BitVec.ofBool c ++ v).rotateRight n)

/-- R234 to R237: SHL, SHR and SAR shift the operand; CF is the last bit shifted out. SAL is SHL, in every
form. -/
def Obligations.ShiftsShift : Prop :=
  (∀ w, w = 8 ∨ w = 16 → ∀ (v : BitVec w) (c : Bool) (n : Nat), 0 < n →
    ShiftOp.shl.steps n v c = (v <<< n, decide (n ≤ w) && v.getLsbD (w - n)) ∧
    ShiftOp.shr.steps n v c = (v >>> n, v.getLsbD (n - 1)) ∧
    ShiftOp.sar.steps n v c = (v.sshiftRight n, if n ≤ w then v.getLsbD (n - 1) else v.msb)) ∧
  (∀ (s : State) (rm8 : RM8) (rm16 : RM16) (count : Byte),
    exec (.salRm8One rm8) s = exec (.shlRm8One rm8) s ∧
    exec (.salRm16One rm16) s = exec (.shlRm16One rm16) s ∧
    exec (.salRm8Cl rm8) s = exec (.shlRm8Cl rm8) s ∧
    exec (.salRm16Cl rm16) s = exec (.shlRm16Cl rm16) s ∧
    exec (.salRm8Cnt rm8 count) s = exec (.shlRm8Cnt rm8 count) s ∧
    exec (.salRm16Cnt rm16 count) s = exec (.shlRm16Cnt rm16 count) s)

/-- R224, R233, R235: OF after a shift or rotate by 1, in terms of the operand and the old CF. -/
def Obligations.ShiftOverflowOfOne : Prop :=
  ∀ w, w = 8 ∨ w = 16 → ∀ (op : ShiftOp) (v : BitVec w) (c : Bool),
    op.overflowOne (op.step v c).1 (op.step v c).2 =
      match op with
      | .rol | .rcl | .shl | .sal => v.getLsbD (w - 1) ^^ v.getLsbD (w - 2)
      | .ror => v.getLsbD 0 ^^ v.getLsbD (w - 1)
      | .rcr => c ^^ v.getLsbD (w - 1)
      | .shr => v.getLsbD (w - 1)
      | .sar => false

/-! ### String primitives -/

/-- R251, R252, R254, R255: MOVS, STOS and LODS move one element and advance the index registers they use,
down when DF is set. -/
def Obligations.StringMoves : Prop :=
  ∀ s : State, s.inv = true →
    let next (x k : Word) : Word := if s.flags.getLsbD 10 then x - k else x + k
    (∀ v old, s.memRead8 s.ds s.si = .ok v → s.memRead8 s.es s.di = .ok old →
      ∃ t, exec .movsb s = .next t ∧ t.memRead8 s.es s.di = .ok v ∧
        t.si = next s.si 1 ∧ t.di = next s.di 1) ∧
    (∀ v old, s.memRead16 s.ds s.si = .ok v → s.memRead16 s.es s.di = .ok old →
      ∃ t, exec .movsw s = .next t ∧ t.memRead16 s.es s.di = .ok v ∧
        t.si = next s.si 2 ∧ t.di = next s.di 2) ∧
    (∀ old, s.memRead8 s.es s.di = .ok old →
      ∃ t, exec .stosb s = .next t ∧ t.memRead8 s.es s.di = .ok (s.reg8 .al) ∧
        t.di = next s.di 1) ∧
    (∀ old, s.memRead16 s.es s.di = .ok old →
      ∃ t, exec .stosw s = .next t ∧ t.memRead16 s.es s.di = .ok s.ax ∧ t.di = next s.di 2) ∧
    (∀ v, s.memRead8 s.ds s.si = .ok v →
      exec .lodsb s = .next { s.setReg8 .al v with si := next s.si 1 }) ∧
    (∀ v, s.memRead16 s.ds s.si = .ok v →
      exec .lodsw s = .next { s with ax := v, si := next s.si 2 })

/-- R251, R253, R256: CMPS and SCAS write the flags of the subtraction and advance the index registers they
use. -/
def Obligations.StringCompares : Prop :=
  ∀ s : State,
    let next (x k : Word) : Word := if s.flags.getLsbD 10 then x - k else x + k
    (∀ a b, s.memRead8 s.ds s.si = .ok a → s.memRead8 s.es s.di = .ok b →
      ∃ fl, SubFlagsHold a b false s.flags fl ∧
        exec .cmpsb s = .next { s with flags := fl, si := next s.si 1, di := next s.di 1 }) ∧
    (∀ a b, s.memRead16 s.ds s.si = .ok a → s.memRead16 s.es s.di = .ok b →
      ∃ fl, SubFlagsHold a b false s.flags fl ∧
        exec .cmpsw s = .next { s with flags := fl, si := next s.si 2, di := next s.di 2 }) ∧
    (∀ b, s.memRead8 s.es s.di = .ok b →
      ∃ fl, SubFlagsHold (s.reg8 .al) b false s.flags fl ∧
        exec .scasb s = .next { s with flags := fl, di := next s.di 1 }) ∧
    (∀ b, s.memRead16 s.es s.di = .ok b →
      ∃ fl, SubFlagsHold s.ax b false s.flags fl ∧
        exec .scasw s = .next { s with flags := fl, di := next s.di 2 })

/-! ### Stack -/

/-- R270, R272 to R274: PUSH moves SP down by 2 and stores the operand there. What PUSH SP stores is the
parameter `PUSH_SP_VALUE`. The decremented SP where the parameter is not the default, and that both encodings
of PUSH SP follow the parameter, are the model's choice (DEDUCED, notes/assumptions/16.md). -/
def Obligations.PushForms : Prop :=
  ∀ (s : State) (old : Word), s.inv = true → s.memRead16 s.ss (s.sp - 2) = .ok old →
    (∀ r : Reg16, r ≠ .sp → ∃ t, exec r.push s = .next t ∧ t.sp = s.sp - 2 ∧
      t.memRead16 s.ss (s.sp - 2) = .ok (s.reg16 r)) ∧
    (∃ t, exec .pushSp s = .next t ∧ t.sp = s.sp - 2 ∧
      t.memRead16 s.ss (s.sp - 2) = .ok (if s.cfg.pushSpOld then s.sp else s.sp - 2)) ∧
    (∀ r : SReg, ∃ t, exec r.push s = .next t ∧ t.sp = s.sp - 2 ∧
      t.memRead16 s.ss (s.sp - 2) = .ok (s.sreg r)) ∧
    (∀ rm v, rm ≠ .reg .sp → s.readRM16 rm = .ok v →
      ∃ t, exec (.pushRm16 rm) s = .next t ∧ t.sp = s.sp - 2 ∧
        t.memRead16 s.ss (s.sp - 2) = .ok v) ∧
    exec (.pushRm16 (.reg .sp)) s = exec .pushSp s

/-- R271, R275 to R277, R279: POP reads the word at SS:SP, moves SP up by 2, and writes the destination. A
write of SS sets INTDELAY to 2. -/
def Obligations.PopForms : Prop :=
  ∀ (s : State) (v : Word), s.memRead16 s.ss s.sp = .ok v →
    (∀ r : Reg16, exec r.pop s = .next ({ s with sp := s.sp + 2 }.setReg16 r v)) ∧
    exec .popEs s = .next { s with sp := s.sp + 2, es := v } ∧
    exec .popDs s = .next { s with sp := s.sp + 2, ds := v } ∧
    exec .popSs s = .next { s with sp := s.sp + 2, ss := v, intDelay := 2 } ∧
    (∀ r, exec (.popRm16 (.reg r)) s = exec r.pop s) ∧
    (∀ m old, s.inv = true → s.readRM16 (.mem m) = .ok old →
      ∃ t, exec (.popRm16 (.mem m)) s = .next t ∧ t.sp = s.sp + 2 ∧
        t.memRead16 (s.resolve m).1 (s.resolve m).2 = .ok v)

/-- R270, R271, R278: a push and a pop of word registers bring the value over and SP back. -/
def Obligations.PushThenPop : Prop :=
  ∀ (s : State) (r q : Reg16) (old : Word), s.inv = true → s.memRead16 s.ss (s.sp - 2) = .ok old →
    ∃ t u, exec r.push s = .next t ∧ exec q.pop t = .next u ∧ u.reg16 q = s.pushedReg r ∧
      (q ≠ .sp → u.sp = s.sp)

/-- R62, R66, R252 to R256, R270, R271, R273, R279, R295, R296, R298 to R301: a string primitive, a push, a pop,
a call or a return whose memory access faults ends in that fault: its first access, or its second where the
first can be made (the destination of MOVS and CMPS, the second stack word of a far call or return, the stack
word of PUSH r/m16, the destination of POP r/m16). -/
def Obligations.StringAndStackFaults : Prop :=
  ∀ (s : State) (f : Fault),
    (s.memRead8 s.ds s.si = .error f →
      exec .movsb s = .fault f ∧ exec .lodsb s = .fault f ∧ exec .cmpsb s = .fault f) ∧
    (s.memRead16 s.ds s.si = .error f →
      exec .movsw s = .fault f ∧ exec .lodsw s = .fault f ∧ exec .cmpsw s = .fault f) ∧
    (s.memRead8 s.es s.di = .error f → exec .stosb s = .fault f ∧ exec .scasb s = .fault f) ∧
    (s.memRead16 s.es s.di = .error f → exec .stosw s = .fault f ∧ exec .scasw s = .fault f) ∧
    (∀ v, s.memRead8 s.ds s.si = .ok v → s.memRead8 s.es s.di = .error f →
      exec .movsb s = .fault f ∧ exec .cmpsb s = .fault f) ∧
    (∀ v, s.memRead16 s.ds s.si = .ok v → s.memRead16 s.es s.di = .error f →
      exec .movsw s = .fault f ∧ exec .cmpsw s = .fault f) ∧
    (s.memRead16 s.ss (s.sp - 2) = .error f →
      (∀ r : Reg16, exec r.push s = .fault f) ∧ (∀ r : SReg, exec r.push s = .fault f) ∧
      (∀ rm v, s.readRM16 rm = .ok v → exec (.pushRm16 rm) s = .fault f) ∧
      (∀ rel, exec (.callNear rel) s = .fault f) ∧ ∀ off seg, exec (.callFar off seg) s = .fault f) ∧
    (∀ a, s.memRead16 s.ss (s.sp - 2) = .ok a → s.memRead16 s.ss (s.sp - 4) = .error f →
      ∀ off seg, exec (.callFar off seg) s = .fault f) ∧
    (s.memRead16 s.ss s.sp = .error f →
      (∀ r : Reg16, exec r.pop s = .fault f) ∧ exec .popEs s = .fault f ∧ exec .popSs s = .fault f ∧
      exec .popDs s = .fault f ∧ (∀ rm, exec (.popRm16 rm) s = .fault f) ∧ exec .ret s = .fault f ∧
      (∀ n, exec (.retPop n) s = .fault f) ∧ exec .retf s = .fault f ∧
      ∀ n, exec (.retfPop n) s = .fault f) ∧
    (∀ a, s.memRead16 s.ss s.sp = .ok a → s.memRead16 s.ss (s.sp + 2) = .error f →
      exec .retf s = .fault f ∧ ∀ n, exec (.retfPop n) s = .fault f) ∧
    (∀ a m, s.memRead16 s.ss s.sp = .ok a → s.readRM16 (.mem m) = .error f →
      exec (.popRm16 (.mem m)) s = .fault f)

/-! ### Control transfer -/

/-- R290 to R293, R304 to R320, R328: the jumps, and for each conditional branch the flags it tests (CF is bit
0, PF 2, ZF 6, SF 7, OF 11 of FLAGS). They change nothing but IP, and the far jump CS. -/
def Obligations.BranchesAndJumps : Prop :=
  ∀ (s : State) (rel : Byte) (d off seg : Word),
    let go (b : Bool) : Result := .next (if b then { s with ip := s.ip + rel.signExtend 16 } else s)
    let cf := s.flags.getLsbD 0
    let pf := s.flags.getLsbD 2
    let zf := s.flags.getLsbD 6
    let sf := s.flags.getLsbD 7
    let ov := s.flags.getLsbD 11
    exec (.jo rel) s = go ov ∧ exec (.jno rel) s = go (!ov) ∧
    exec (.jb rel) s = go cf ∧ exec (.jae rel) s = go (!cf) ∧
    exec (.je rel) s = go zf ∧ exec (.jne rel) s = go (!zf) ∧
    exec (.jbe rel) s = go (cf || zf) ∧ exec (.ja rel) s = go (!(cf || zf)) ∧
    exec (.js rel) s = go sf ∧ exec (.jns rel) s = go (!sf) ∧
    exec (.jp rel) s = go pf ∧ exec (.jnp rel) s = go (!pf) ∧
    exec (.jl rel) s = go (sf ^^ ov) ∧ exec (.jge rel) s = go (!(sf ^^ ov)) ∧
    exec (.jle rel) s = go (zf || (sf ^^ ov)) ∧ exec (.jg rel) s = go (!(zf || (sf ^^ ov))) ∧
    exec (.jcxz rel) s = go (decide (s.cx = 0)) ∧
    exec (.jmpShort rel) s = go true ∧
    exec (.jmpNear d) s = .next { s with ip := s.ip + d } ∧
    exec (.jmpFar off seg) s = .next { s with cs := seg, ip := off }

/-- R295, R296, R330: a call pushes the offset of the next instruction, a far call its segment first, and
transfers. -/
def Obligations.CallForms : Prop :=
  ∀ (s : State) (a : Word), s.inv = true → s.memRead16 s.ss (s.sp - 2) = .ok a →
    (∀ d, ∃ t, exec (.callNear d) s = .next t ∧ t.sp = s.sp - 2 ∧
      t.memRead16 s.ss (s.sp - 2) = .ok s.ip ∧ t.ip = s.ip + d ∧ t.cs = s.cs) ∧
    (∀ off seg b, s.memRead16 s.ss (s.sp - 4) = .ok b →
      ∃ t, exec (.callFar off seg) s = .next t ∧ t.sp = s.sp - 4 ∧
        t.memRead16 s.ss (s.sp - 2) = .ok s.cs ∧ t.memRead16 s.ss (s.sp - 4) = .ok s.ip ∧
        t.ip = off ∧ t.cs = seg)

/-- R298 to R301: a return pops the offset, a far return then the segment, and then discards as many bytes as
the instruction says. -/
def Obligations.ReturnForms : Prop :=
  ∀ (s : State) (off n : Word), s.memRead16 s.ss s.sp = .ok off →
    exec .ret s = .next { s with ip := off, sp := s.sp + 2 } ∧
    exec (.retPop n) s = .next { s with ip := off, sp := s.sp + 2 + n } ∧
    (∀ seg, s.memRead16 s.ss (s.sp + 2) = .ok seg →
      exec .retf s = .next { s with ip := off, cs := seg, sp := s.sp + 4 } ∧
      exec (.retfPop n) s = .next { s with ip := off, cs := seg, sp := s.sp + 4 + n })

/-- R295, R296, R298, R300: a return undoes the call: CS:IP is the instruction after the call and SP is as
before it. -/
def Obligations.CallThenReturn : Prop :=
  ∀ (s : State) (a : Word), s.inv = true → s.memRead16 s.ss (s.sp - 2) = .ok a →
    (∀ d, ∃ t u, exec (.callNear d) s = .next t ∧ exec .ret t = .next u ∧
      u.ip = s.ip ∧ u.cs = s.cs ∧ u.sp = s.sp) ∧
    (∀ off seg b, s.memRead16 s.ss (s.sp - 4) = .ok b →
      ∃ t u, exec (.callFar off seg) s = .next t ∧ exec .retf t = .next u ∧
        u.ip = s.ip ∧ u.cs = s.cs ∧ u.sp = s.sp)

/-- R324 to R327: the loop family decrements CX and then tests it, and ZF in the conditional forms. FLAGS is
unchanged, or, with the parameter `LOOP_WRITES_FLAGS`, as DEC CX leaves it. That LOOPE and LOOPNE then test the
ZF the decrement wrote is the model's choice (DEDUCED, notes/assumptions/16.md). -/
def Obligations.LoopForms : Prop :=
  ∀ (s : State) (rel : Byte), ∃ fl,
    (s.cfg.loopWritesFlags = false → fl = s.flags) ∧
    (s.cfg.loopWritesFlags = true → IncDec.dec.Leaves s.cx (s.cx - 1) s.flags fl) ∧
    (let go (b : Bool) : Result :=
      .next { s with cx := s.cx - 1, flags := fl, ip := if b then s.ip + rel.signExtend 16 else s.ip }
     let more := decide (s.cx ≠ 1)
     exec (.loop rel) s = go more ∧
     exec (.loope rel) s = go (more && fl.getLsbD 6) ∧
     exec (.loopne rel) s = go (more && !fl.getLsbD 6))

/-! ### System -/

/-- R341, R363, R37: HLT and the exit function end the run with their code, which is then EXIT (computed from
STATUS, notes/assumptions/12.md), and change nothing else. -/
def Obligations.HaltAndExit : Prop :=
  ∀ s : State,
    exec .hlt s = .next { s with status := .terminated 0 } ∧
    (s.reg8 .ah = 0x4C → exec (.int 0x21) s = .next { s with status := .terminated (s.reg8 .al) }) ∧
    (∀ code, ({ s with status := .terminated code } : State).exitCode = some code)

/-- R361, R364, R367: character output appends DL to CONOUT; every other interrupt or function but string
output and exit is logged and ignored. -/
def Obligations.InterruptServices : Prop :=
  ∀ s : State,
    (∀ n, n ≠ 0x21 → exec (.int n) s = .next { s with diag := s.diag ++ [.unsupportedInterrupt n] }) ∧
    (s.reg8 .ah = 0x02 → exec (.int 0x21) s = .next { s with conout := s.conout ++ [s.reg8 .dl] }) ∧
    (s.reg8 .ah ≠ 0x4C → s.reg8 .ah ≠ 0x09 → s.reg8 .ah ≠ 0x02 →
      exec (.int 0x21) s = .next { s with diag := s.diag ++ [.unsupportedFunction (s.reg8 .ah)] })

/-- R365, R366: string output. A string that ends in `$` within the bound is output through the filter; one
that does not is output up to the bound, and logged; a string that leaves the store faults. Printable bytes
pass the filter, and the default filter of R366 is the one without changes: the filter as a list of changes is
the model's form (DESIGN CHOICE, notes/assumptions/10.md). -/
def Obligations.StringOutput : Prop :=
  (∀ (s : State) (text : List Byte), s.reg8 .ah = 0x09 →
    (∀ k (h : k < text.length),
      s.memRead8 s.ds (s.dx + BitVec.ofNat 16 k) = .ok text[k] ∧ text[k] ≠ 0x24) →
    (text.length < s.cfg.strMax → s.memRead8 s.ds (s.dx + BitVec.ofNat 16 text.length) = .ok 0x24 →
      exec (.int 0x21) s = .next { s with conout := s.conout ++ text.flatMap (consoleFilter s.cfg) }) ∧
    (text.length = s.cfg.strMax →
      exec (.int 0x21) s =
        .next
          { s with
            conout := s.conout ++ text.flatMap (consoleFilter s.cfg)
            diag := s.diag ++ [.stringTooLong] }) ∧
    (∀ f, text.length < s.cfg.strMax →
      s.memRead8 s.ds (s.dx + BitVec.ofNat 16 text.length) = .error f →
      exec (.int 0x21) s = .fault f)) ∧
  (∀ (cfg : Config) (c : Byte), 0x20 ≤ c.toNat → c.toNat ≤ 0x7E → consoleFilter cfg c = [c]) ∧
  (∀ (cfg : Config) (c : Byte), cfg.filterChanges = [] → (c.toNat < 0x20 ∨ 0x7E < c.toNat) →
    consoleFilter cfg c =
      if c ∈ [0x0A, 0x0D, 0x09] then [c] else if c = 0x08 then [0x08, 0x20, 0x08] else [])

/-- R350, D32: an unrecognized instruction is logged with its first byte and stops the machine, with no exit
code; IP is a free value from 1 to 4 bytes past the first byte; the rest of the state is unchanged (but for the
model's count of free values). The bounds of IP are read from R350 and D32 (DEDUCED, notes/assumptions/7.md). -/
def Obligations.UnrecognizedStops : Prop :=
  ∀ (i : Instr) (s : State), i.family = .unrecognized →
    ∃ op bytes k, encode i = op :: bytes ∧ k < 4 ∧
      exec i s =
        .next
          { s with
            ip := s.ip - BitVec.ofNat 16 (encode i).length + BitVec.ofNat 16 (1 + k)
            status := .stopped op
            diag := s.diag ++ [.unsupportedOpcode op]
            draws := s.draws + 1 } ∧
      ({ s with status := .stopped op } : State).exitCode = none

/-! ### The host's operations -/

/-- R403: LOAD takes any image of at most 65536 bytes, copies it to physical address 0x100, and sets the
registers; it rejects any other. -/
def Obligations.LoadContract : Prop :=
  ∀ (s : State) (image : List Byte), s.mem.wf = true →
    (image.length ≤ 65536 →
      ∃ m, s.load image =
        some
          { s with
            ax := 0, bx := 0, cx := 0, dx := 0, bp := 0, si := 0, di := 0
            cs := 0, ds := 0, ss := 0, es := 0
            ip := 0x0100
            sp := s.cfg.spInit
            flags := s.cfg.flagsInit
            mem := m } ∧
        (∀ k (h : k < image.length), m.read (0x100 + k) = image[k]) ∧
        ∀ a, a < 0x100 ∨ 0x100 + image.length ≤ a → m.read a = s.mem.read a) ∧
    (65536 < image.length → s.load image = none)

/-- R41, R400, R401: CONSTRUCT zeroes all state; RESET clears the general and pointer registers and INTDELAY,
makes the machine startable and leaves the rest but IP; the model's reset state is an empty image loaded on a
constructed machine with the default parameters (notes/assumptions/1.md). -/
def Obligations.ConstructAndReset : Prop :=
  (∀ cfg, (∀ a, (State.construct cfg).mem.read a = 0) ∧ (State.construct cfg).status = .running ∧
    (∀ r, (State.construct cfg).reg16 r = 0) ∧ (∀ r, (State.construct cfg).sreg r = 0) ∧
    (State.construct cfg).ip = 0 ∧ (State.construct cfg).flags = 0 ∧
    (State.construct cfg).intDelay = 0 ∧ (State.construct cfg).conout = [] ∧
    (State.construct cfg).diag = []) ∧
  (∀ s : State, ∃ ip draws,
    s.resetOp =
      { s with
        ax := 0, bx := 0, cx := 0, dx := 0, sp := 0, bp := 0, si := 0, di := 0
        intDelay := 0, status := .running, ip := ip, draws := draws }) ∧
  (State.construct defaultConfig).load [] = some State.reset

/-! ### The step -/

/-- R342, R68, R28, R34: when the six bytes from CS:IP on (the offset wrapping) begin with the instruction `i`,
a step of a running machine is `exec i` with IP past every byte of it, and then INTDELAY counted down, whether
or not `i` ended the run (R371 is read as in notes/assumptions/8.md, DEDUCED). -/
def Obligations.StepRunsDecodedInstruction : Prop :=
  ∀ (s : State) (bytes : List Byte) (i : Instr) (rest : List Byte),
    s.status = .running → bytes.length = 6 →
    (∀ k (h : k < bytes.length), s.memRead8 s.cs (s.ip + BitVec.ofNat 16 k) = .ok bytes[k]) →
    decode bytes = .ok (i, rest) →
      step s =
        match exec i { s with ip := s.ip + BitVec.ofNat 16 (6 - rest.length) } with
        | .next t =>
          .next { t with intDelay := t.intDelay - 1 }
        | .fault f => .fault f
        | .refused r => .refused r

/-- R35, R37, R402, R412, R62: a machine that has ended takes no step, and a fetch outside the store faults.
START repeats the step until the machine is not running, which leads to at most one end, and hands over how the
run ended. The fault notRunning is the model's name for having no step (DESIGN CHOICE, notes/assumptions/11.md). -/
def Obligations.StepStops : Prop :=
  (∀ s : State, s.status ≠ .running → step s = .fault .notRunning) ∧
  (∀ s : State, s.status = .running → 1048576 ≤ s.phys s.cs s.ip → step s = .fault .memBounds) ∧
  (∀ s t : State, s.status = .running → (s.EndsIn t ↔ ∃ u, step s = .next u ∧ u.EndsIn t)) ∧
  (∀ s t : State, s.status ≠ .running → (s.EndsIn t ↔ t = s)) ∧
  (∀ s t u : State, s.EndsIn t → s.EndsIn u → t = u) ∧
  (∀ s t : State, s.EndsIn t →
    (∃ code, t.outcome = some (.terminated code) ∧ t.exitCode = some code) ∨
      ∃ op, t.outcome = some (.stopped op) ∧ t.exitCode = none)

/-- R120, R121, R411: every byte sequence has a meaning, so no step is refused; and a step faults for the
reasons of R9 only, by division only in AAM with base 0, and never by a bound under REAL8086 (R62). -/
def Obligations.StepNeverRefuses : Prop :=
  ∀ s : State,
    (∀ r, step s ≠ .refused r) ∧
    (∀ i, exec i s = .fault .divideByZero → i = .aam 0) ∧
    (∀ i, exec i s ≠ .fault .notRunning) ∧
    (s.cfg.addrModel = .real8086 → step s ≠ .fault .memBounds)

/-- The invariant holds of the state a program starts from. -/
def Obligations.InvariantAtReset : Prop := State.reset.inv = true

/-- R60, R34: every step keeps the store in canonical form and within its 2^20 bytes, and INTDELAY at most
2. -/
def Obligations.StepKeepsInvariant : Prop :=
  ∀ s t : State, s.inv = true → step s = .next t → t.inv = true

/-- R31, R32, R33: no step writes IF, DF or a reserved bit of FLAGS. -/
def Obligations.StepKeepsSystemFlags : Prop :=
  ∀ s t : State, step s = .next t → SystemBitsKept s.flags t.flags

/-- R31, R33, R34: nothing a step does depends on IF, on the reserved bits of FLAGS or on INTDELAY. Two states
that differ in those alone take steps that differ in those alone. Such states agree on the count of free values
drawn, so that both steps draw the same ones: the free values are the model's choice of form (DESIGN CHOICE,
notes/assumptions/6.md). -/
def Obligations.HiddenStateDoesNotLeak : Prop :=
  ∀ s t : State, s.observable = t.observable → observed (step s) = observed (step t)

/-- R36, R38, R40: a step only appends to CONOUT and DIAG, and leaves the parameters. -/
def Obligations.OutputsOnlyGrow : Prop :=
  ∀ s t : State, step s = .next t → s.conout <+: t.conout ∧ s.diag <+: t.diag ∧ t.cfg = s.cfg

/-- R26, R28, R290: only jumps, calls, returns, branches, loops and unrecognized instructions move IP from the
next instruction; only far transfers write CS; only MOV and POP write DS, ES and SS. -/
def Obligations.WhoWritesIpAndSegments : Prop :=
  ∀ (i : Instr) (s t : State), exec i s = .next t →
    (i.family ∉ [.jump, .call, .ret, .branch, .loop, .unrecognized] → t.ip = s.ip) ∧
    ((∀ off seg n, i ≠ .jmpFar off seg ∧ i ≠ .callFar off seg ∧ i ≠ .retf ∧ i ≠ .retfPop n) →
      t.cs = s.cs) ∧
    (i.family ∉ [.mov, .pop] → t.ds = s.ds ∧ t.es = s.es ∧ t.ss = s.ss)

/-- R35, R360: a run ends only at HLT, at an unrecognized instruction, or at interrupt 0x21 with AH = 0x4C. -/
def Obligations.WhoEndsARun : Prop :=
  ∀ (i : Instr) (s t : State), exec i s = .next t → t.status ≠ s.status →
    i = .hlt ∨ i.family = .unrecognized ∨ (i = .int 0x21 ∧ s.reg8 .ah = 0x4C)

/-! ### Frames -/

/-- R32, R166, R178, R179, R221, R225: what ADD, OR, ADC, SBB, AND, SUB, XOR, CMP, INC, DEC and the shifts and
rotates leave unchanged: everything but their destination (a register, or the byte or word at the address of
their r/m operand), the flags of R32 and IP. -/
def Obligations.FrameOfArithmetic : Prop :=
  ∀ (i : Instr) (s t : State),
    ((∃ op, i.family = .alu op) ∨ (∃ op, i.family = .incDec op) ∨ ∃ op, i.family = .shift op) →
      exec i s = .next t → (i.footprint s).Covers s t

/-- R140, R250 to R256, R270 to R279: what MOV, the string primitives, PUSH and POP leave unchanged. -/
def Obligations.FrameOfDataMovement : Prop :=
  ∀ (i : Instr) (s t : State),
    i.family ∈ [.mov, .movs, .cmps, .stos, .lods, .scas, .push, .pop] →
      exec i s = .next t → (i.footprint s).Covers s t

/-- R200 to R206, R290 to R330, R340, R341, R350: what the BCD instructions, the jumps, calls, returns,
branches and loops, INT, HLT and the unrecognized instructions leave unchanged. -/
def Obligations.FrameOfControlAndSystem : Prop :=
  ∀ (i : Instr) (s t : State),
    i.family ∈
      [.bcdAdjust, .bcdBase, .jump, .call, .ret, .branch, .loop, .int, .hlt, .unrecognized] →
      exec i s = .next t → (i.footprint s).Covers s t

end
end

