-- ==== Sys2Proof/Laws/Decode.lean ====
section
/-! SUPPORT. The fields of an instruction: each code gives its register back, the ModR/M byte is its three
fields, and an r/m operand is read back from the bytes written for it (spec/30_encoding.md R94 to R97). -/

namespace Sys2Proof

/-! ### Register codes -/

@[simp] theorem Reg8.ofCode_code (r : Reg8) : Reg8.ofCode r.code = r := by cases r <;> rfl

@[simp] theorem Reg16.ofCode_code (r : Reg16) : Reg16.ofCode r.code = r := by cases r <;> rfl

@[simp] theorem Base.ofCode_code (b : Base) : Base.ofCode b.code = b := by cases b <;> rfl

@[simp] theorem Reg8.code_ofCode (c : BitVec 3) : (Reg8.ofCode c).code = c := by
  revert c; decide

@[simp] theorem Reg16.code_ofCode (c : BitVec 3) : (Reg16.ofCode c).code = c := by
  revert c; decide

@[simp] theorem Base.code_ofCode (c : BitVec 3) : (Base.ofCode c).code = c := by
  revert c; decide

/-- Only BP has the r/m code 6. -/
theorem Base.code_eq_six {b : Base} : b.code = 6 ↔ b = .bp := by cases b <;> decide

/-! ### The ModR/M byte -/

@[simp] theorem modeField_modRMByte (mode : BitVec 2) (reg rm : BitVec 3) :
    modeField (modRMByte mode reg rm) = mode := by
  revert mode reg rm; decide

@[simp] theorem regField_modRMByte (mode : BitVec 2) (reg rm : BitVec 3) :
    regField (modRMByte mode reg rm) = reg := by
  revert mode reg rm; decide

@[simp] theorem rmField_modRMByte (mode : BitVec 2) (reg rm : BitVec 3) :
    rmField (modRMByte mode reg rm) = rm := by
  revert mode reg rm; decide

/-- R94: the byte is its three fields. -/
@[simp] theorem modRMByte_fields (b : Byte) : modRMByte (modeField b) (regField b) (rmField b) = b := by
  revert b; decide

/-! ### The stream -/

@[simp] theorem takeByte_cons (b : Byte) (rest : List Byte) : takeByte (b :: rest) = .ok (b, rest) := rfl

@[simp] theorem takeWord_wordBytes (v : Word) (rest : List Byte) :
    takeWord (wordBytes v ++ rest) = .ok (v, rest) := by
  simp [wordBytes, takeWord]

/-- R91: what a byte was read from. -/
theorem takeByte_eq_ok {bytes rest : List Byte} {b : Byte} :
    takeByte bytes = .ok (b, rest) ↔ bytes = b :: rest := by
  cases bytes <;> simp [takeByte]

/-- R91: what a word was read from. -/
theorem takeWord_eq_ok {bytes rest : List Byte} {v : Word} :
    takeWord bytes = .ok (v, rest) ↔ bytes = wordBytes v ++ rest := by
  constructor
  · intro h
    match bytes, h with
    | lo :: hi :: rest', h =>
      simp only [takeWord, Except.ok.injEq, Prod.mk.injEq] at h
      obtain ⟨rfl, rfl⟩ := h
      simp [wordBytes]
  · rintro rfl
    exact takeWord_wordBytes v rest

/-! ### The r/m operand -/

/-- R95, R97: mode 0. -/
theorem takeRM_mode0 {R : Type} (ofCode : BitVec 3 → R) (c : BitVec 3) (bytes : List Byte) :
    takeRM ofCode 0 c bytes =
      if c = 6 then (takeWord bytes).map fun x => (.mem (.direct x.1), x.2)
      else .ok (.mem (.base (Base.ofCode c)), bytes) := rfl

/-- R95: mode 1. -/
theorem takeRM_mode1 {R : Type} (ofCode : BitVec 3 → R) (c : BitVec 3) (bytes : List Byte) :
    takeRM ofCode 1 c bytes =
      (takeByte bytes).map fun x => (.mem (.disp8 (Base.ofCode c) x.1), x.2) := rfl

/-- R95: mode 2. -/
theorem takeRM_mode2 {R : Type} (ofCode : BitVec 3 → R) (c : BitVec 3) (bytes : List Byte) :
    takeRM ofCode 2 c bytes =
      (takeWord bytes).map fun x => (.mem (.disp16 (Base.ofCode c) x.1), x.2) := rfl

/-- R95: mode 3. -/
theorem takeRM_mode3 {R : Type} (ofCode : BitVec 3 → R) (c : BitVec 3) (bytes : List Byte) :
    takeRM ofCode 3 c bytes = .ok (.reg (ofCode c), bytes) := rfl

theorem mode_cases (m : BitVec 2) : m = 0 ∨ m = 1 ∨ m = 2 ∨ m = 3 := by
  revert m; decide

theorem decoded_map_eq_ok {α β : Type} {x : Decoded α} {f : α × List Byte → β} {b : β} :
    x.map f = .ok b ↔ ∃ a, x = .ok a ∧ f a = b := by
  cases x <;> simp [Except.map]

/-- R94 to R97: the bytes written for a well-formed r/m operand are a ModR/M byte with the given reg field
and the displacement bytes, from which the operand is read back. -/
theorem takeRM_rmBytes {R : Type} {code : R → BitVec 3} {ofCode : BitVec 3 → R}
    (hcode : ∀ r, ofCode (code r) = r) (reg : BitVec 3) {rm : RM R} (hwf : rm.wf = true)
    (rest : List Byte) :
    ∃ b disp, rmBytes code reg rm = b :: disp ∧ regField b = reg ∧
      takeRM ofCode (modeField b) (rmField b) (disp ++ rest) = .ok (rm, rest) := by
  cases rm with
  | reg r => exact ⟨_, _, rfl, by simp, by
    rw [modeField_modRMByte, rmField_modRMByte, takeRM_mode3, hcode]; rfl⟩
  | mem m =>
    cases m with
    | direct off => exact ⟨_, _, rfl, by simp, by
      rw [modeField_modRMByte, rmField_modRMByte, takeRM_mode0, if_pos rfl, takeWord_wordBytes]; rfl⟩
    | base b =>
      have hb : b.code ≠ 6 := by
        intro h
        rw [Base.code_eq_six.mp h] at hwf
        exact Bool.noConfusion hwf
      exact ⟨_, _, rfl, by simp, by
        rw [modeField_modRMByte, rmField_modRMByte, takeRM_mode0, if_neg hb, Base.ofCode_code]; rfl⟩
    | disp8 b d => exact ⟨_, _, rfl, by simp, by
      rw [modeField_modRMByte, rmField_modRMByte, takeRM_mode1, Base.ofCode_code]; rfl⟩
    | disp16 b d => exact ⟨_, _, rfl, by simp, by
      rw [modeField_modRMByte, rmField_modRMByte, takeRM_mode2, takeWord_wordBytes, Base.ofCode_code]; rfl⟩

/-- R94 to R97: an r/m operand that was read is well formed, and its bytes are those it was read from. -/
theorem rmBytes_of_takeRM {R : Type} {code : R → BitVec 3} {ofCode : BitVec 3 → R}
    (hcode : ∀ c, code (ofCode c) = c) {b : Byte} {bytes rest : List Byte} {rm : RM R}
    (h : takeRM ofCode (modeField b) (rmField b) bytes = .ok (rm, rest)) :
    rm.wf = true ∧ b :: bytes = rmBytes code (regField b) rm ++ rest := by
  have hb := modRMByte_fields b
  generalize modeField b = mode at *
  generalize regField b = reg at *
  generalize rmField b = c at *
  subst hb
  obtain rfl | rfl | rfl | rfl := mode_cases mode
  · rw [takeRM_mode0] at h
    split at h
    · subst_vars
      obtain ⟨⟨off, rest'⟩, ht, h⟩ := decoded_map_eq_ok.mp h
      cases h
      rw [takeWord_eq_ok.mp ht]
      exact ⟨rfl, rfl⟩
    · rename_i hc
      cases h
      refine ⟨?_, by simp [rmBytes]⟩
      have hne : Base.ofCode c ≠ .bp := by
        intro e
        rw [← Base.code_eq_six, Base.code_ofCode] at e
        exact hc e
      revert hne
      cases Base.ofCode c <;> simp [RM.wf, MemOperand.wf]
  · rw [takeRM_mode1] at h
    obtain ⟨⟨d, rest'⟩, ht, h⟩ := decoded_map_eq_ok.mp h
    cases h
    rw [takeByte_eq_ok.mp ht]
    exact ⟨rfl, by simp [rmBytes]⟩
  · rw [takeRM_mode2] at h
    obtain ⟨⟨d, rest'⟩, ht, h⟩ := decoded_map_eq_ok.mp h
    cases h
    rw [takeWord_eq_ok.mp ht]
    exact ⟨rfl, by simp [rmBytes]⟩
  · rw [takeRM_mode3] at h
    cases h
    exact ⟨rfl, by simp [rmBytes, hcode]⟩

/-- R99: an r/m operand is read from two bytes of displacement at most, and leaves the rest. -/
theorem takeRM_length {R : Type} (ofCode : BitVec 3 → R) (mode : BitVec 2) (c : BitVec 3)
    {bytes : List Byte} (h : 2 ≤ bytes.length) :
    ∃ rm rest, takeRM ofCode mode c bytes = .ok (rm, rest) ∧ bytes.length ≤ rest.length + 2 ∧
      rest.length ≤ bytes.length := by
  match bytes, h with
  | lo :: hi :: rest, _ =>
    obtain rfl | rfl | rfl | rfl := mode_cases mode
    · rw [takeRM_mode0]
      split
      · exact ⟨_, _, rfl, by simp only [List.length_cons]; omega, by simp only [List.length_cons]; omega⟩
      · exact ⟨_, _, rfl, by simp only [List.length_cons]; omega, by simp only [List.length_cons]; omega⟩
    · exact ⟨_, _, rfl, by simp only [List.length_cons]; omega, by simp only [List.length_cons]; omega⟩
    · exact ⟨_, _, rfl, by simp only [List.length_cons]; omega, by simp only [List.length_cons]; omega⟩
    · exact ⟨_, _, rfl, by simp only [List.length_cons]; omega, by simp only [List.length_cons]; omega⟩

/-! ### What an entry of the opcode map reads -/

/-- What the reg field of a ModR/M byte selects in an entry of the opcode map, when the entry is a group. -/
def Entry.select (reg : BitVec 3) : Entry → Option GroupEntry
  | .group g0 g1 g2 g3 g4 g5 g6 g7 => some (selectGroup reg g0 g1 g2 g3 g4 g5 g6 g7)
  | .op _ | .i8 _ | .i16 _ | .far _ | .mrm8 _ | .mrm16 _ => none

theorem decode_cons {op : Byte} {e : Entry} (h : entryOf op = e) (bytes : List Byte) :
    decode (op :: bytes) = e.read bytes := by rw [← h]; rfl

/-- R101, R107: a group opcode reads its ModR/M byte and then what the reg field selects. -/
theorem decode_select {op : Byte} {reg : BitVec 3} {g : GroupEntry}
    (h : (entryOf op).select reg = some g) {b : Byte} (hb : regField b = reg) (bytes : List Byte) :
    decode (op :: b :: bytes) = g.read b bytes := by
  subst hb
  cases he : entryOf op <;> rw [he] at h <;> simp only [Entry.select, reduceCtorEq, Option.some.injEq] at h
  rw [decode_cons he, ← h]
  rfl

theorem decode_op {op : Byte} {i : Instr} (h : entryOf op = .op i) (rest : List Byte) :
    decode (op :: rest) = .ok (i, rest) := decode_cons h rest

theorem decode_i8 {op : Byte} {mk : Byte → Instr} (h : entryOf op = .i8 mk) (imm : Byte)
    (rest : List Byte) : decode (op :: imm :: rest) = .ok (mk imm, rest) := decode_cons h _

theorem decode_i16 {op : Byte} {mk : Word → Instr} (h : entryOf op = .i16 mk) (imm : Word)
    (rest : List Byte) : decode (op :: (wordBytes imm ++ rest)) = .ok (mk imm, rest) := by
  rw [decode_cons h]
  simp [Entry.read, Except.map]

theorem decode_far {op : Byte} {mk : Word → Word → Instr} (h : entryOf op = .far mk) (off seg : Word)
    (rest : List Byte) :
    decode (op :: ((wordBytes off ++ wordBytes seg) ++ rest)) = .ok (mk off seg, rest) := by
  rw [decode_cons h, List.append_assoc]
  simp [Entry.read, Except.bind, Except.map]

theorem decode_mrm8 {op : Byte} {mk : RM8 → Reg8 → Instr} (h : entryOf op = .mrm8 mk) {rm : RM8}
    (hw : rm.wf = true) (r : Reg8) (rest : List Byte) :
    decode (op :: (rmBytes Reg8.code r.code rm ++ rest)) = .ok (mk rm r, rest) := by
  obtain ⟨b, disp, h1, h2, h3⟩ := takeRM_rmBytes Reg8.ofCode_code r.code hw rest
  rw [decode_cons h, h1]
  simp [Entry.read, Except.bind, Except.map, h2, h3]

theorem decode_mrm16 {op : Byte} {mk : RM16 → Reg16 → Instr} (h : entryOf op = .mrm16 mk) {rm : RM16}
    (hw : rm.wf = true) (r : Reg16) (rest : List Byte) :
    decode (op :: (rmBytes Reg16.code r.code rm ++ rest)) = .ok (mk rm r, rest) := by
  obtain ⟨b, disp, h1, h2, h3⟩ := takeRM_rmBytes Reg16.ofCode_code r.code hw rest
  rw [decode_cons h, h1]
  simp [Entry.read, Except.bind, Except.map, h2, h3]

theorem decode_rm8 {op : Byte} {reg : BitVec 3} {mk : RM8 → Instr}
    (h : (entryOf op).select reg = some (.rm8 mk)) {rm : RM8} (hw : rm.wf = true) (rest : List Byte) :
    decode (op :: (rmBytes Reg8.code reg rm ++ rest)) = .ok (mk rm, rest) := by
  obtain ⟨b, disp, h1, h2, h3⟩ := takeRM_rmBytes Reg8.ofCode_code reg hw rest
  rw [h1, List.cons_append, decode_select h h2]
  simp [GroupEntry.read, h3, Except.map]

theorem decode_rm16 {op : Byte} {reg : BitVec 3} {mk : RM16 → Instr}
    (h : (entryOf op).select reg = some (.rm16 mk)) {rm : RM16} (hw : rm.wf = true) (rest : List Byte) :
    decode (op :: (rmBytes Reg16.code reg rm ++ rest)) = .ok (mk rm, rest) := by
  obtain ⟨b, disp, h1, h2, h3⟩ := takeRM_rmBytes Reg16.ofCode_code reg hw rest
  rw [h1, List.cons_append, decode_select h h2]
  simp [GroupEntry.read, h3, Except.map]

theorem decode_rm8i8 {op : Byte} {reg : BitVec 3} {mk : RM8 → Byte → Instr}
    (h : (entryOf op).select reg = some (.rm8i8 mk)) {rm : RM8} (hw : rm.wf = true) (imm : Byte)
    (rest : List Byte) :
    decode (op :: ((rmBytes Reg8.code reg rm ++ [imm]) ++ rest)) = .ok (mk rm imm, rest) := by
  obtain ⟨b, disp, h1, h2, h3⟩ := takeRM_rmBytes Reg8.ofCode_code reg hw ([imm] ++ rest)
  rw [List.append_assoc, h1, List.cons_append, decode_select h h2]
  simp only [GroupEntry.read, h3, Except.bind, Except.map]
  simp

theorem decode_rm16i8 {op : Byte} {reg : BitVec 3} {mk : RM16 → Byte → Instr}
    (h : (entryOf op).select reg = some (.rm16i8 mk)) {rm : RM16} (hw : rm.wf = true) (imm : Byte)
    (rest : List Byte) :
    decode (op :: ((rmBytes Reg16.code reg rm ++ [imm]) ++ rest)) = .ok (mk rm imm, rest) := by
  obtain ⟨b, disp, h1, h2, h3⟩ := takeRM_rmBytes Reg16.ofCode_code reg hw ([imm] ++ rest)
  rw [List.append_assoc, h1, List.cons_append, decode_select h h2]
  simp only [GroupEntry.read, h3, Except.bind, Except.map]
  simp

theorem decode_rm16i16 {op : Byte} {reg : BitVec 3} {mk : RM16 → Word → Instr}
    (h : (entryOf op).select reg = some (.rm16i16 mk)) {rm : RM16} (hw : rm.wf = true) (imm : Word)
    (rest : List Byte) :
    decode (op :: ((rmBytes Reg16.code reg rm ++ wordBytes imm) ++ rest)) = .ok (mk rm imm, rest) := by
  obtain ⟨b, disp, h1, h2, h3⟩ := takeRM_rmBytes Reg16.ofCode_code reg hw (wordBytes imm ++ rest)
  rw [List.append_assoc, h1, List.cons_append, decode_select h h2]
  simp only [GroupEntry.read, h3, Except.bind, Except.map]
  simp

theorem decode_x {op b : Byte} {i : Instr} (h : (entryOf op).select (regField b) = some (.x i))
    (rest : List Byte) : decode (op :: b :: rest) = .ok (i, rest) := decode_select h rfl rest

/-! ### The opcode map and the encoder agree -/

/-- The instructions of a group entry under an opcode byte and a reg field are encoded so. -/
def GroupEntry.Faithful (op : Byte) (reg : BitVec 3) : GroupEntry → Prop
  | .rm8 mk => ∀ rm : RM8, (mk rm).wf = rm.wf ∧ encode (mk rm) = op :: rmBytes Reg8.code reg rm
  | .rm16 mk => ∀ rm : RM16, (mk rm).wf = rm.wf ∧ encode (mk rm) = op :: rmBytes Reg16.code reg rm
  | .rm8i8 mk => ∀ (rm : RM8) imm,
    (mk rm imm).wf = rm.wf ∧ encode (mk rm imm) = op :: (rmBytes Reg8.code reg rm ++ [imm])
  | .rm16i8 mk => ∀ (rm : RM16) imm,
    (mk rm imm).wf = rm.wf ∧ encode (mk rm imm) = op :: (rmBytes Reg16.code reg rm ++ [imm])
  | .rm16i16 mk => ∀ (rm : RM16) imm,
    (mk rm imm).wf = rm.wf ∧ encode (mk rm imm) = op :: (rmBytes Reg16.code reg rm ++ wordBytes imm)
  | .x i => i.wf = true ∧ encode i = [op, modRMByte 0 reg 0]

/-- The instructions of an entry under an opcode byte are encoded so. -/
def Entry.Faithful (op : Byte) : Entry → Prop
  | .op i => i.wf = true ∧ encode i = [op]
  | .i8 mk => ∀ imm, (mk imm).wf = true ∧ encode (mk imm) = [op, imm]
  | .i16 mk => ∀ imm, (mk imm).wf = true ∧ encode (mk imm) = op :: wordBytes imm
  | .far mk => ∀ off seg,
    (mk off seg).wf = true ∧ encode (mk off seg) = op :: (wordBytes off ++ wordBytes seg)
  | .mrm8 mk => ∀ (rm : RM8) r,
    (mk rm r).wf = rm.wf ∧ encode (mk rm r) = op :: rmBytes Reg8.code r.code rm
  | .mrm16 mk => ∀ (rm : RM16) r,
    (mk rm r).wf = rm.wf ∧ encode (mk rm r) = op :: rmBytes Reg16.code r.code rm
  | .group g0 g1 g2 g3 g4 g5 g6 g7 =>
    g0.Faithful op 0 ∧ g1.Faithful op 1 ∧ g2.Faithful op 2 ∧ g3.Faithful op 3 ∧
      g4.Faithful op 4 ∧ g5.Faithful op 5 ∧ g6.Faithful op 6 ∧ g7.Faithful op 7

/-- The entry that the reg field selects in a faithful group is faithful. -/
theorem GroupEntry.faithful_selectGroup {op : Byte} {g0 g1 g2 g3 g4 g5 g6 g7 : GroupEntry}
    (h : (Entry.group g0 g1 g2 g3 g4 g5 g6 g7).Faithful op) (reg : BitVec 3) :
    (selectGroup reg g0 g1 g2 g3 g4 g5 g6 g7).Faithful op reg := by
  obtain ⟨h0, h1, h2, h3, h4, h5, h6, h7⟩ := h
  have : reg = 0 ∨ reg = 1 ∨ reg = 2 ∨ reg = 3 ∨ reg = 4 ∨ reg = 5 ∨ reg = 6 ∨ reg = 7 := by
    revert reg; decide
  obtain rfl | rfl | rfl | rfl | rfl | rfl | rfl | rfl := this <;> assumption

theorem entryOf_faithful_00 (n : Nat) (h : n < 16) :
    (entryOf (BitVec.ofNat 8 (0 + n))).Faithful (BitVec.ofNat 8 (0 + n)) := by
  interval_cases n
  all_goals first | exact ⟨rfl, rfl⟩ | exact fun _ => ⟨rfl, rfl⟩ | exact fun _ _ => ⟨rfl, rfl⟩

theorem entryOf_faithful_10 (n : Nat) (h : n < 16) :
    (entryOf (BitVec.ofNat 8 (16 + n))).Faithful (BitVec.ofNat 8 (16 + n)) := by
  interval_cases n
  all_goals first | exact ⟨rfl, rfl⟩ | exact fun _ => ⟨rfl, rfl⟩ | exact fun _ _ => ⟨rfl, rfl⟩

theorem entryOf_faithful_20 (n : Nat) (h : n < 16) :
    (entryOf (BitVec.ofNat 8 (32 + n))).Faithful (BitVec.ofNat 8 (32 + n)) := by
  interval_cases n
  all_goals first | exact ⟨rfl, rfl⟩ | exact fun _ => ⟨rfl, rfl⟩ | exact fun _ _ => ⟨rfl, rfl⟩

theorem entryOf_faithful_30 (n : Nat) (h : n < 16) :
    (entryOf (BitVec.ofNat 8 (48 + n))).Faithful (BitVec.ofNat 8 (48 + n)) := by
  interval_cases n
  all_goals first | exact ⟨rfl, rfl⟩ | exact fun _ => ⟨rfl, rfl⟩ | exact fun _ _ => ⟨rfl, rfl⟩

theorem entryOf_faithful_40 (n : Nat) (h : n < 16) :
    (entryOf (BitVec.ofNat 8 (64 + n))).Faithful (BitVec.ofNat 8 (64 + n)) := by
  interval_cases n
  all_goals exact ⟨rfl, rfl⟩

theorem entryOf_faithful_50 (n : Nat) (h : n < 16) :
    (entryOf (BitVec.ofNat 8 (80 + n))).Faithful (BitVec.ofNat 8 (80 + n)) := by
  interval_cases n
  all_goals exact ⟨rfl, rfl⟩

theorem entryOf_faithful_60 (n : Nat) (h : n < 16) :
    (entryOf (BitVec.ofNat 8 (96 + n))).Faithful (BitVec.ofNat 8 (96 + n)) := by
  interval_cases n
  all_goals exact ⟨rfl, rfl⟩

theorem entryOf_faithful_70 (n : Nat) (h : n < 16) :
    (entryOf (BitVec.ofNat 8 (112 + n))).Faithful (BitVec.ofNat 8 (112 + n)) := by
  interval_cases n
  all_goals exact fun _ => ⟨rfl, rfl⟩

theorem entryOf_faithful_80 (n : Nat) (h : n < 16) :
    (entryOf (BitVec.ofNat 8 (128 + n))).Faithful (BitVec.ofNat 8 (128 + n)) := by
  interval_cases n
  all_goals first
    | exact ⟨rfl, rfl⟩
    | exact fun _ => ⟨rfl, rfl⟩
    | exact fun _ _ => ⟨rfl, rfl⟩
    | (refine ⟨?_, ?_, ?_, ?_, ?_, ?_, ?_, ?_⟩ <;>
        first | exact ⟨rfl, rfl⟩ | exact fun _ => ⟨rfl, rfl⟩ | exact fun _ _ => ⟨rfl, rfl⟩)

theorem entryOf_faithful_90 (n : Nat) (h : n < 16) :
    (entryOf (BitVec.ofNat 8 (144 + n))).Faithful (BitVec.ofNat 8 (144 + n)) := by
  interval_cases n
  all_goals first | exact ⟨rfl, rfl⟩ | exact fun _ => ⟨rfl, rfl⟩ | exact fun _ _ => ⟨rfl, rfl⟩

theorem entryOf_faithful_A0 (n : Nat) (h : n < 16) :
    (entryOf (BitVec.ofNat 8 (160 + n))).Faithful (BitVec.ofNat 8 (160 + n)) := by
  interval_cases n
  all_goals first | exact ⟨rfl, rfl⟩ | exact fun _ => ⟨rfl, rfl⟩

theorem entryOf_faithful_B0 (n : Nat) (h : n < 16) :
    (entryOf (BitVec.ofNat 8 (176 + n))).Faithful (BitVec.ofNat 8 (176 + n)) := by
  interval_cases n
  all_goals exact fun _ => ⟨rfl, rfl⟩

theorem entryOf_faithful_C0 (n : Nat) (h : n < 16) :
    (entryOf (BitVec.ofNat 8 (192 + n))).Faithful (BitVec.ofNat 8 (192 + n)) := by
  interval_cases n
  all_goals first
    | exact ⟨rfl, rfl⟩
    | exact fun _ => ⟨rfl, rfl⟩
    | exact fun _ _ => ⟨rfl, rfl⟩
    | (refine ⟨?_, ?_, ?_, ?_, ?_, ?_, ?_, ?_⟩ <;>
        first | exact ⟨rfl, rfl⟩ | exact fun _ => ⟨rfl, rfl⟩ | exact fun _ _ => ⟨rfl, rfl⟩)

theorem entryOf_faithful_D0 (n : Nat) (h : n < 16) :
    (entryOf (BitVec.ofNat 8 (208 + n))).Faithful (BitVec.ofNat 8 (208 + n)) := by
  interval_cases n
  all_goals first
    | exact ⟨rfl, rfl⟩
    | exact fun _ => ⟨rfl, rfl⟩
    | exact fun _ _ => ⟨rfl, rfl⟩
    | (refine ⟨?_, ?_, ?_, ?_, ?_, ?_, ?_, ?_⟩ <;>
        first | exact ⟨rfl, rfl⟩ | exact fun _ => ⟨rfl, rfl⟩)

theorem entryOf_faithful_E0 (n : Nat) (h : n < 16) :
    (entryOf (BitVec.ofNat 8 (224 + n))).Faithful (BitVec.ofNat 8 (224 + n)) := by
  interval_cases n
  all_goals first | exact ⟨rfl, rfl⟩ | exact fun _ => ⟨rfl, rfl⟩ | exact fun _ _ => ⟨rfl, rfl⟩

theorem entryOf_faithful_F0 (n : Nat) (h : n < 16) :
    (entryOf (BitVec.ofNat 8 (240 + n))).Faithful (BitVec.ofNat 8 (240 + n)) := by
  interval_cases n
  all_goals first
    | exact ⟨rfl, rfl⟩
    | exact fun _ => ⟨rfl, rfl⟩
    | exact fun _ _ => ⟨rfl, rfl⟩
    | (refine ⟨?_, ?_, ?_, ?_, ?_, ?_, ?_, ?_⟩ <;>
        first | exact ⟨rfl, rfl⟩ | exact fun _ => ⟨rfl, rfl⟩)

/-- R110: every instruction is encoded under the opcode byte, and the reg field, that select it. -/
theorem entryOf_faithful (op : Byte) : (entryOf op).Faithful op := by
  have hop : op = BitVec.ofNat 8 (16 * (op.toNat / 16) + op.toNat % 16) := by
    rw [Nat.div_add_mod]; simp
  have h1 : op.toNat / 16 < 16 := by omega
  have h2 : op.toNat % 16 < 16 := by omega
  generalize op.toNat / 16 = hi at *
  generalize op.toNat % 16 = lo at *
  subst hop
  interval_cases hi
  · exact entryOf_faithful_00 lo h2
  · exact entryOf_faithful_10 lo h2
  · exact entryOf_faithful_20 lo h2
  · exact entryOf_faithful_30 lo h2
  · exact entryOf_faithful_40 lo h2
  · exact entryOf_faithful_50 lo h2
  · exact entryOf_faithful_60 lo h2
  · exact entryOf_faithful_70 lo h2
  · exact entryOf_faithful_80 lo h2
  · exact entryOf_faithful_90 lo h2
  · exact entryOf_faithful_A0 lo h2
  · exact entryOf_faithful_B0 lo h2
  · exact entryOf_faithful_C0 lo h2
  · exact entryOf_faithful_D0 lo h2
  · exact entryOf_faithful_E0 lo h2
  · exact entryOf_faithful_F0 lo h2

/-! ### How much an entry reads -/

theorem takeByte_length {bytes : List Byte} (h : 1 ≤ bytes.length) :
    ∃ b rest, takeByte bytes = .ok (b, rest) ∧ bytes.length = rest.length + 1 := by
  match bytes, h with
  | b :: rest, _ => exact ⟨b, rest, rfl, rfl⟩

theorem takeWord_length {bytes : List Byte} (h : 2 ≤ bytes.length) :
    ∃ v rest, takeWord bytes = .ok (v, rest) ∧ bytes.length = rest.length + 2 := by
  match bytes, h with
  | lo :: hi :: rest, _ => exact ⟨_, rest, rfl, rfl⟩

/-- R93: after its ModR/M byte a group entry reads at most four bytes. -/
theorem GroupEntry.read_length (g : GroupEntry) (b : Byte) {bytes : List Byte} (h : 4 ≤ bytes.length) :
    ∃ i rest, g.read b bytes = .ok (i, rest) ∧ bytes.length ≤ rest.length + 4 ∧
      rest.length ≤ bytes.length := by
  cases g with
  | rm8 mk =>
    obtain ⟨rm, r, h1, h2, h3⟩ :=
      takeRM_length Reg8.ofCode (modeField b) (rmField b) (bytes := bytes) (by omega)
    exact ⟨mk rm, r, by simp only [GroupEntry.read, h1, Except.map], by omega, by omega⟩
  | rm16 mk =>
    obtain ⟨rm, r, h1, h2, h3⟩ :=
      takeRM_length Reg16.ofCode (modeField b) (rmField b) (bytes := bytes) (by omega)
    exact ⟨mk rm, r, by simp only [GroupEntry.read, h1, Except.map], by omega, by omega⟩
  | rm8i8 mk =>
    obtain ⟨rm, r, h1, h2, h3⟩ :=
      takeRM_length Reg8.ofCode (modeField b) (rmField b) (bytes := bytes) (by omega)
    obtain ⟨v, r', h4, h5⟩ := takeByte_length (bytes := r) (by omega)
    exact ⟨mk rm v, r', by simp only [GroupEntry.read, h1, h4, Except.map, Except.bind], by omega, by omega⟩
  | rm16i8 mk =>
    obtain ⟨rm, r, h1, h2, h3⟩ :=
      takeRM_length Reg16.ofCode (modeField b) (rmField b) (bytes := bytes) (by omega)
    obtain ⟨v, r', h4, h5⟩ := takeByte_length (bytes := r) (by omega)
    exact ⟨mk rm v, r', by simp only [GroupEntry.read, h1, h4, Except.map, Except.bind], by omega, by omega⟩
  | rm16i16 mk =>
    obtain ⟨rm, r, h1, h2, h3⟩ :=
      takeRM_length Reg16.ofCode (modeField b) (rmField b) (bytes := bytes) (by omega)
    obtain ⟨v, r', h4, h5⟩ := takeWord_length (bytes := r) (by omega)
    exact ⟨mk rm v, r', by simp only [GroupEntry.read, h1, h4, Except.map, Except.bind], by omega, by omega⟩
  | x i => exact ⟨i, bytes, rfl, by omega, by omega⟩

/-- R93: after its opcode byte an entry reads at most five bytes. -/
theorem Entry.read_length (e : Entry) {bytes : List Byte} (h : 5 ≤ bytes.length) :
    ∃ i rest, e.read bytes = .ok (i, rest) ∧ bytes.length ≤ rest.length + 5 ∧
      rest.length ≤ bytes.length := by
  cases e with
  | op i => exact ⟨i, bytes, rfl, by omega, by omega⟩
  | i8 mk =>
    obtain ⟨v, r, h1, h2⟩ := takeByte_length (bytes := bytes) (by omega)
    exact ⟨mk v, r, by simp only [Entry.read, h1, Except.map], by omega, by omega⟩
  | i16 mk =>
    obtain ⟨v, r, h1, h2⟩ := takeWord_length (bytes := bytes) (by omega)
    exact ⟨mk v, r, by simp only [Entry.read, h1, Except.map], by omega, by omega⟩
  | far mk =>
    obtain ⟨off, r, h1, h2⟩ := takeWord_length (bytes := bytes) (by omega)
    obtain ⟨seg, r', h3, h4⟩ := takeWord_length (bytes := r) (by omega)
    exact ⟨mk off seg, r', by simp only [Entry.read, h1, h3, Except.map, Except.bind], by omega, by omega⟩
  | mrm8 mk =>
    obtain ⟨b, r, h1, h2⟩ := takeByte_length (bytes := bytes) (by omega)
    obtain ⟨rm, r', h3, h4, h5⟩ :=
      takeRM_length Reg8.ofCode (modeField b) (rmField b) (bytes := r) (by omega)
    exact ⟨mk rm (Reg8.ofCode (regField b)), r', by simp only [Entry.read, h1, h3, Except.map, Except.bind],
      by omega, by omega⟩
  | mrm16 mk =>
    obtain ⟨b, r, h1, h2⟩ := takeByte_length (bytes := bytes) (by omega)
    obtain ⟨rm, r', h3, h4, h5⟩ :=
      takeRM_length Reg16.ofCode (modeField b) (rmField b) (bytes := r) (by omega)
    exact ⟨mk rm (Reg16.ofCode (regField b)), r', by simp only [Entry.read, h1, h3, Except.map, Except.bind],
      by omega, by omega⟩
  | group g0 g1 g2 g3 g4 g5 g6 g7 =>
    obtain ⟨b, r, h1, h2⟩ := takeByte_length (bytes := bytes) (by omega)
    obtain ⟨i, r', h3, h4, h5⟩ :=
      (selectGroup (regField b) g0 g1 g2 g3 g4 g5 g6 g7).read_length b (bytes := r) (by omega)
    exact ⟨i, r', by simp only [Entry.read, h1, h3, Except.bind], by omega, by omega⟩

end Sys2Proof
end

