-- ==== Sys2Proof/Laws/Memory.lean ====
section
/-! SUPPORT. The byte store: a byte reads as it was last written, a write leaves every other byte, and every
operation keeps the canonical form (spec/20_memory.md R60, R65). -/

namespace Sys2Proof.Machine

@[simp] theorem Memory.read_nil (a : Nat) : Memory.read [] a = unlistedByte := rfl

theorem Memory.read_cons (k : Nat) (v : Byte) (m : Memory) (a : Nat) :
    Memory.read ((k, v) :: m) a = if a = k then v else m.read a := rfl

/-- Below the first listed address a store in canonical form reads as an unlisted address does. -/
theorem Memory.read_below {lo : Nat} {m : Memory} (h : Memory.wfFrom lo m = true) {a : Nat}
    (ha : a < lo) : m.read a = unlistedByte := by
  induction m generalizing lo with
  | nil => rfl
  | cons c m ih =>
    obtain ⟨k, v⟩ := c
    simp only [Memory.wfFrom, Bool.and_eq_true, decide_eq_true_eq] at h
    rw [Memory.read_cons, if_neg (by omega)]
    exact ih h.2 (by omega)

theorem Memory.wfFrom_mono {lo lo' : Nat} {m : Memory} (h : Memory.wfFrom lo m = true)
    (hle : lo' ≤ lo) : Memory.wfFrom lo' m = true := by
  cases m with
  | nil => rfl
  | cons c m =>
    obtain ⟨k, v⟩ := c
    simp only [Memory.wfFrom, Bool.and_eq_true, decide_eq_true_eq] at h ⊢
    exact ⟨⟨⟨by omega, h.1.1.2⟩, h.1.2⟩, h.2⟩

theorem Memory.wfFrom_putFront {lo k : Nat} {v : Byte} {m : Memory}
    (h : Memory.wfFrom (k + 1) m = true) (hlo : lo ≤ k) (hk : k < memSize) :
    Memory.wfFrom lo (Memory.putFront k v m) = true := by
  unfold Memory.putFront
  split
  · exact Memory.wfFrom_mono h (by omega)
  · rename_i hv
    simp [Memory.wfFrom, hlo, hk, hv, h]

/-- A write inside the store keeps the canonical form. -/
theorem Memory.wfFrom_write {lo : Nat} {m : Memory} {k : Nat} {v : Byte}
    (h : Memory.wfFrom lo m = true) (hlo : lo ≤ k) (hk : k < memSize) :
    Memory.wfFrom lo (m.write k v) = true := by
  induction m generalizing lo with
  | nil => exact Memory.wfFrom_putFront rfl hlo hk
  | cons c m ih =>
    obtain ⟨a, w⟩ := c
    have h' := h
    simp only [Memory.wfFrom, Bool.and_eq_true, decide_eq_true_eq] at h
    unfold Memory.write
    split
    · exact Memory.wfFrom_putFront (by simp [Memory.wfFrom] at h' ⊢; exact ⟨⟨⟨by omega, h.1.1.2⟩, h'.1.2⟩, h.2⟩) hlo hk
    · split
      · subst_vars
        exact Memory.wfFrom_putFront h.2 hlo hk
      · simp only [Memory.wfFrom, Bool.and_eq_true, decide_eq_true_eq]
        exact ⟨h.1, ih h.2 (by omega)⟩

/-- A write inside the store keeps the canonical form. -/
theorem Memory.wf_write {m : Memory} {k : Nat} {v : Byte} (h : m.wf = true) (hk : k < memSize) :
    (m.write k v).wf = true :=
  Memory.wfFrom_write h (Nat.zero_le k) hk

/-- A write leaves every other byte. -/
theorem Memory.read_write_other {m : Memory} {k a : Nat} {v : Byte} (h : a ≠ k) :
    (m.write k v).read a = m.read a := by
  have front : ∀ m' : Memory, (Memory.putFront k v m').read a = m'.read a := by
    intro m'
    unfold Memory.putFront
    split
    · rfl
    · rw [Memory.read_cons, if_neg h]
  induction m with
  | nil => exact front []
  | cons c m ih =>
    obtain ⟨b, w⟩ := c
    unfold Memory.write
    split
    · exact front _
    · split
      · subst_vars
        rw [front, Memory.read_cons, if_neg h]
      · rw [Memory.read_cons, Memory.read_cons, ih]

/-- A byte reads as it was last written. -/
theorem Memory.read_write_self {lo : Nat} {m : Memory} {k : Nat} {v : Byte}
    (h : Memory.wfFrom lo m = true) : (m.write k v).read k = v := by
  have front : ∀ m' : Memory, m'.read k = unlistedByte → (Memory.putFront k v m').read k = v := by
    intro m' hm
    unfold Memory.putFront
    split
    · simp_all
    · rw [Memory.read_cons, if_pos rfl]
  induction m generalizing lo with
  | nil => exact front [] rfl
  | cons c m ih =>
    obtain ⟨a, w⟩ := c
    have h' := h
    simp only [Memory.wfFrom, Bool.and_eq_true, decide_eq_true_eq] at h
    unfold Memory.write
    split
    · rename_i hka
      refine front _ ?_
      rw [Memory.read_cons, if_neg (by omega)]
      exact Memory.read_below h.2 (by omega)
    · split
      · subst_vars
        exact front _ (Memory.read_below h.2 (by omega))
      · rename_i hne
        rw [Memory.read_cons, if_neg hne]
        exact ih h.2

/-- A byte reads as it was last written, and a write leaves every other byte. -/
theorem Memory.read_write {m : Memory} (h : m.wf = true) (k a : Nat) (v : Byte) :
    (m.write k v).read a = if a = k then v else m.read a := by
  split
  · subst_vars
    exact Memory.read_write_self h
  · exact Memory.read_write_other ‹_›

theorem Memory.wf_nil : Memory.wf [] = true := rfl

/-- R403: copying an image that ends inside the store keeps the canonical form. -/
theorem Memory.wf_writeImage {m : Memory} {a : Nat} {bytes : List Byte} (h : m.wf = true)
    (hb : a + bytes.length ≤ memSize) : (m.writeImage a bytes).wf = true := by
  induction bytes generalizing m a with
  | nil => exact h
  | cons b bytes ih =>
    simp only [List.length_cons] at hb
    exact ih (Memory.wf_write h (by omega)) (by omega)

/-- Placing bytes at offsets of a segment that all lie in the store keeps the canonical form. -/
theorem State.wf_pokeFrom {s : State} {seg : Word} {off : Word} {bytes : List Byte}
    (h : s.mem.wf = true) (hb : ∀ off, s.phys seg off < memSize) :
    (s.pokeFrom seg off bytes).wf = true := by
  induction bytes generalizing off with
  | nil => exact h
  | cons b bytes ih => exact Memory.wf_write ih (hb off)

end Sys2Proof.Machine
end

