-- ==== Sys2Proof/Laws/State.lean ====
section
/-! SUPPORT. One lemma for each field of State under each named update, so that no proof unfolds a record
update. -/

namespace Sys2Proof.Machine

/-! ### setReg16 -/

@[simp] theorem State.setReg16_cs (s : State) (r : Reg16) (v : Word) : (s.setReg16 r v).cs = s.cs :=
  by cases r <;> rfl
@[simp] theorem State.setReg16_ds (s : State) (r : Reg16) (v : Word) : (s.setReg16 r v).ds = s.ds :=
  by cases r <;> rfl
@[simp] theorem State.setReg16_ss (s : State) (r : Reg16) (v : Word) : (s.setReg16 r v).ss = s.ss :=
  by cases r <;> rfl
@[simp] theorem State.setReg16_es (s : State) (r : Reg16) (v : Word) : (s.setReg16 r v).es = s.es :=
  by cases r <;> rfl
@[simp] theorem State.setReg16_ip (s : State) (r : Reg16) (v : Word) : (s.setReg16 r v).ip = s.ip :=
  by cases r <;> rfl
@[simp] theorem State.setReg16_flags (s : State) (r : Reg16) (v : Word) : (s.setReg16 r v).flags = s.flags :=
  by cases r <;> rfl
@[simp] theorem State.setReg16_intDelay (s : State) (r : Reg16) (v : Word) : (s.setReg16 r v).intDelay = s.intDelay :=
  by cases r <;> rfl
@[simp] theorem State.setReg16_status (s : State) (r : Reg16) (v : Word) : (s.setReg16 r v).status = s.status :=
  by cases r <;> rfl
@[simp] theorem State.setReg16_mem (s : State) (r : Reg16) (v : Word) : (s.setReg16 r v).mem = s.mem :=
  by cases r <;> rfl
@[simp] theorem State.setReg16_conout (s : State) (r : Reg16) (v : Word) : (s.setReg16 r v).conout = s.conout :=
  by cases r <;> rfl
@[simp] theorem State.setReg16_diag (s : State) (r : Reg16) (v : Word) : (s.setReg16 r v).diag = s.diag :=
  by cases r <;> rfl
@[simp] theorem State.setReg16_draws (s : State) (r : Reg16) (v : Word) : (s.setReg16 r v).draws = s.draws :=
  by cases r <;> rfl
@[simp] theorem State.setReg16_cfg (s : State) (r : Reg16) (v : Word) : (s.setReg16 r v).cfg = s.cfg :=
  by cases r <;> rfl

@[simp] theorem State.setReg16_ax (s : State) (r : Reg16) (v : Word) :
    (s.setReg16 r v).ax = if r = .ax then v else s.ax := by cases r <;> rfl
@[simp] theorem State.setReg16_bx (s : State) (r : Reg16) (v : Word) :
    (s.setReg16 r v).bx = if r = .bx then v else s.bx := by cases r <;> rfl
@[simp] theorem State.setReg16_cx (s : State) (r : Reg16) (v : Word) :
    (s.setReg16 r v).cx = if r = .cx then v else s.cx := by cases r <;> rfl
@[simp] theorem State.setReg16_dx (s : State) (r : Reg16) (v : Word) :
    (s.setReg16 r v).dx = if r = .dx then v else s.dx := by cases r <;> rfl
@[simp] theorem State.setReg16_sp (s : State) (r : Reg16) (v : Word) :
    (s.setReg16 r v).sp = if r = .sp then v else s.sp := by cases r <;> rfl
@[simp] theorem State.setReg16_bp (s : State) (r : Reg16) (v : Word) :
    (s.setReg16 r v).bp = if r = .bp then v else s.bp := by cases r <;> rfl
@[simp] theorem State.setReg16_si (s : State) (r : Reg16) (v : Word) :
    (s.setReg16 r v).si = if r = .si then v else s.si := by cases r <;> rfl
@[simp] theorem State.setReg16_di (s : State) (r : Reg16) (v : Word) :
    (s.setReg16 r v).di = if r = .di then v else s.di := by cases r <;> rfl

/-! ### setReg8 -/

@[simp] theorem State.setReg8_sp (s : State) (r : Reg8) (v : Byte) : (s.setReg8 r v).sp = s.sp :=
  by cases r <;> rfl
@[simp] theorem State.setReg8_bp (s : State) (r : Reg8) (v : Byte) : (s.setReg8 r v).bp = s.bp :=
  by cases r <;> rfl
@[simp] theorem State.setReg8_si (s : State) (r : Reg8) (v : Byte) : (s.setReg8 r v).si = s.si :=
  by cases r <;> rfl
@[simp] theorem State.setReg8_di (s : State) (r : Reg8) (v : Byte) : (s.setReg8 r v).di = s.di :=
  by cases r <;> rfl
@[simp] theorem State.setReg8_cs (s : State) (r : Reg8) (v : Byte) : (s.setReg8 r v).cs = s.cs :=
  by cases r <;> rfl
@[simp] theorem State.setReg8_ds (s : State) (r : Reg8) (v : Byte) : (s.setReg8 r v).ds = s.ds :=
  by cases r <;> rfl
@[simp] theorem State.setReg8_ss (s : State) (r : Reg8) (v : Byte) : (s.setReg8 r v).ss = s.ss :=
  by cases r <;> rfl
@[simp] theorem State.setReg8_es (s : State) (r : Reg8) (v : Byte) : (s.setReg8 r v).es = s.es :=
  by cases r <;> rfl
@[simp] theorem State.setReg8_ip (s : State) (r : Reg8) (v : Byte) : (s.setReg8 r v).ip = s.ip :=
  by cases r <;> rfl
@[simp] theorem State.setReg8_flags (s : State) (r : Reg8) (v : Byte) : (s.setReg8 r v).flags = s.flags :=
  by cases r <;> rfl
@[simp] theorem State.setReg8_intDelay (s : State) (r : Reg8) (v : Byte) : (s.setReg8 r v).intDelay = s.intDelay :=
  by cases r <;> rfl
@[simp] theorem State.setReg8_status (s : State) (r : Reg8) (v : Byte) : (s.setReg8 r v).status = s.status :=
  by cases r <;> rfl
@[simp] theorem State.setReg8_mem (s : State) (r : Reg8) (v : Byte) : (s.setReg8 r v).mem = s.mem :=
  by cases r <;> rfl
@[simp] theorem State.setReg8_conout (s : State) (r : Reg8) (v : Byte) : (s.setReg8 r v).conout = s.conout :=
  by cases r <;> rfl
@[simp] theorem State.setReg8_diag (s : State) (r : Reg8) (v : Byte) : (s.setReg8 r v).diag = s.diag :=
  by cases r <;> rfl
@[simp] theorem State.setReg8_draws (s : State) (r : Reg8) (v : Byte) : (s.setReg8 r v).draws = s.draws :=
  by cases r <;> rfl
@[simp] theorem State.setReg8_cfg (s : State) (r : Reg8) (v : Byte) : (s.setReg8 r v).cfg = s.cfg :=
  by cases r <;> rfl

/-! ### setSreg -/

@[simp] theorem State.setSreg_ax (s : State) (r : SReg) (v : Word) : (s.setSreg r v).ax = s.ax :=
  by cases r <;> rfl
@[simp] theorem State.setSreg_bx (s : State) (r : SReg) (v : Word) : (s.setSreg r v).bx = s.bx :=
  by cases r <;> rfl
@[simp] theorem State.setSreg_cx (s : State) (r : SReg) (v : Word) : (s.setSreg r v).cx = s.cx :=
  by cases r <;> rfl
@[simp] theorem State.setSreg_dx (s : State) (r : SReg) (v : Word) : (s.setSreg r v).dx = s.dx :=
  by cases r <;> rfl
@[simp] theorem State.setSreg_sp (s : State) (r : SReg) (v : Word) : (s.setSreg r v).sp = s.sp :=
  by cases r <;> rfl
@[simp] theorem State.setSreg_bp (s : State) (r : SReg) (v : Word) : (s.setSreg r v).bp = s.bp :=
  by cases r <;> rfl
@[simp] theorem State.setSreg_si (s : State) (r : SReg) (v : Word) : (s.setSreg r v).si = s.si :=
  by cases r <;> rfl
@[simp] theorem State.setSreg_di (s : State) (r : SReg) (v : Word) : (s.setSreg r v).di = s.di :=
  by cases r <;> rfl
@[simp] theorem State.setSreg_ip (s : State) (r : SReg) (v : Word) : (s.setSreg r v).ip = s.ip :=
  by cases r <;> rfl
@[simp] theorem State.setSreg_flags (s : State) (r : SReg) (v : Word) : (s.setSreg r v).flags = s.flags :=
  by cases r <;> rfl
@[simp] theorem State.setSreg_status (s : State) (r : SReg) (v : Word) : (s.setSreg r v).status = s.status :=
  by cases r <;> rfl
@[simp] theorem State.setSreg_mem (s : State) (r : SReg) (v : Word) : (s.setSreg r v).mem = s.mem :=
  by cases r <;> rfl
@[simp] theorem State.setSreg_conout (s : State) (r : SReg) (v : Word) : (s.setSreg r v).conout = s.conout :=
  by cases r <;> rfl
@[simp] theorem State.setSreg_diag (s : State) (r : SReg) (v : Word) : (s.setSreg r v).diag = s.diag :=
  by cases r <;> rfl
@[simp] theorem State.setSreg_draws (s : State) (r : SReg) (v : Word) : (s.setSreg r v).draws = s.draws :=
  by cases r <;> rfl
@[simp] theorem State.setSreg_cfg (s : State) (r : SReg) (v : Word) : (s.setSreg r v).cfg = s.cfg :=
  by cases r <;> rfl

/-! ### withFlags -/

@[simp] theorem State.withFlags_ax (s : State) (fl : Word) : (s.withFlags fl).ax = s.ax := rfl
@[simp] theorem State.withFlags_bx (s : State) (fl : Word) : (s.withFlags fl).bx = s.bx := rfl
@[simp] theorem State.withFlags_cx (s : State) (fl : Word) : (s.withFlags fl).cx = s.cx := rfl
@[simp] theorem State.withFlags_dx (s : State) (fl : Word) : (s.withFlags fl).dx = s.dx := rfl
@[simp] theorem State.withFlags_sp (s : State) (fl : Word) : (s.withFlags fl).sp = s.sp := rfl
@[simp] theorem State.withFlags_bp (s : State) (fl : Word) : (s.withFlags fl).bp = s.bp := rfl
@[simp] theorem State.withFlags_si (s : State) (fl : Word) : (s.withFlags fl).si = s.si := rfl
@[simp] theorem State.withFlags_di (s : State) (fl : Word) : (s.withFlags fl).di = s.di := rfl
@[simp] theorem State.withFlags_cs (s : State) (fl : Word) : (s.withFlags fl).cs = s.cs := rfl
@[simp] theorem State.withFlags_ds (s : State) (fl : Word) : (s.withFlags fl).ds = s.ds := rfl
@[simp] theorem State.withFlags_ss (s : State) (fl : Word) : (s.withFlags fl).ss = s.ss := rfl
@[simp] theorem State.withFlags_es (s : State) (fl : Word) : (s.withFlags fl).es = s.es := rfl
@[simp] theorem State.withFlags_ip (s : State) (fl : Word) : (s.withFlags fl).ip = s.ip := rfl
@[simp] theorem State.withFlags_flags (s : State) (fl : Word) : (s.withFlags fl).flags = fl := rfl
@[simp] theorem State.withFlags_intDelay (s : State) (fl : Word) : (s.withFlags fl).intDelay = s.intDelay :=
  rfl
@[simp] theorem State.withFlags_status (s : State) (fl : Word) : (s.withFlags fl).status = s.status := rfl
@[simp] theorem State.withFlags_mem (s : State) (fl : Word) : (s.withFlags fl).mem = s.mem := rfl
@[simp] theorem State.withFlags_conout (s : State) (fl : Word) : (s.withFlags fl).conout = s.conout := rfl
@[simp] theorem State.withFlags_diag (s : State) (fl : Word) : (s.withFlags fl).diag = s.diag := rfl
@[simp] theorem State.withFlags_draws (s : State) (fl : Word) : (s.withFlags fl).draws = s.draws := rfl
@[simp] theorem State.withFlags_cfg (s : State) (fl : Word) : (s.withFlags fl).cfg = s.cfg := rfl

/-! ### withIp -/

@[simp] theorem State.withIp_ax (s : State) (v : Word) : (s.withIp v).ax = s.ax := rfl
@[simp] theorem State.withIp_bx (s : State) (v : Word) : (s.withIp v).bx = s.bx := rfl
@[simp] theorem State.withIp_cx (s : State) (v : Word) : (s.withIp v).cx = s.cx := rfl
@[simp] theorem State.withIp_dx (s : State) (v : Word) : (s.withIp v).dx = s.dx := rfl
@[simp] theorem State.withIp_sp (s : State) (v : Word) : (s.withIp v).sp = s.sp := rfl
@[simp] theorem State.withIp_bp (s : State) (v : Word) : (s.withIp v).bp = s.bp := rfl
@[simp] theorem State.withIp_si (s : State) (v : Word) : (s.withIp v).si = s.si := rfl
@[simp] theorem State.withIp_di (s : State) (v : Word) : (s.withIp v).di = s.di := rfl
@[simp] theorem State.withIp_cs (s : State) (v : Word) : (s.withIp v).cs = s.cs := rfl
@[simp] theorem State.withIp_ds (s : State) (v : Word) : (s.withIp v).ds = s.ds := rfl
@[simp] theorem State.withIp_ss (s : State) (v : Word) : (s.withIp v).ss = s.ss := rfl
@[simp] theorem State.withIp_es (s : State) (v : Word) : (s.withIp v).es = s.es := rfl
@[simp] theorem State.withIp_ip (s : State) (v : Word) : (s.withIp v).ip = v := rfl
@[simp] theorem State.withIp_flags (s : State) (v : Word) : (s.withIp v).flags = s.flags := rfl
@[simp] theorem State.withIp_intDelay (s : State) (v : Word) : (s.withIp v).intDelay = s.intDelay := rfl
@[simp] theorem State.withIp_status (s : State) (v : Word) : (s.withIp v).status = s.status := rfl
@[simp] theorem State.withIp_mem (s : State) (v : Word) : (s.withIp v).mem = s.mem := rfl
@[simp] theorem State.withIp_conout (s : State) (v : Word) : (s.withIp v).conout = s.conout := rfl
@[simp] theorem State.withIp_diag (s : State) (v : Word) : (s.withIp v).diag = s.diag := rfl
@[simp] theorem State.withIp_draws (s : State) (v : Word) : (s.withIp v).draws = s.draws := rfl
@[simp] theorem State.withIp_cfg (s : State) (v : Word) : (s.withIp v).cfg = s.cfg := rfl

/-! ### withMem -/

@[simp] theorem State.withMem_ax (s : State) (m : Memory) : (s.withMem m).ax = s.ax := rfl
@[simp] theorem State.withMem_bx (s : State) (m : Memory) : (s.withMem m).bx = s.bx := rfl
@[simp] theorem State.withMem_cx (s : State) (m : Memory) : (s.withMem m).cx = s.cx := rfl
@[simp] theorem State.withMem_dx (s : State) (m : Memory) : (s.withMem m).dx = s.dx := rfl
@[simp] theorem State.withMem_sp (s : State) (m : Memory) : (s.withMem m).sp = s.sp := rfl
@[simp] theorem State.withMem_bp (s : State) (m : Memory) : (s.withMem m).bp = s.bp := rfl
@[simp] theorem State.withMem_si (s : State) (m : Memory) : (s.withMem m).si = s.si := rfl
@[simp] theorem State.withMem_di (s : State) (m : Memory) : (s.withMem m).di = s.di := rfl
@[simp] theorem State.withMem_cs (s : State) (m : Memory) : (s.withMem m).cs = s.cs := rfl
@[simp] theorem State.withMem_ds (s : State) (m : Memory) : (s.withMem m).ds = s.ds := rfl
@[simp] theorem State.withMem_ss (s : State) (m : Memory) : (s.withMem m).ss = s.ss := rfl
@[simp] theorem State.withMem_es (s : State) (m : Memory) : (s.withMem m).es = s.es := rfl
@[simp] theorem State.withMem_ip (s : State) (m : Memory) : (s.withMem m).ip = s.ip := rfl
@[simp] theorem State.withMem_flags (s : State) (m : Memory) : (s.withMem m).flags = s.flags := rfl
@[simp] theorem State.withMem_intDelay (s : State) (m : Memory) : (s.withMem m).intDelay = s.intDelay := rfl
@[simp] theorem State.withMem_status (s : State) (m : Memory) : (s.withMem m).status = s.status := rfl
@[simp] theorem State.withMem_mem (s : State) (m : Memory) : (s.withMem m).mem = m := rfl
@[simp] theorem State.withMem_conout (s : State) (m : Memory) : (s.withMem m).conout = s.conout := rfl
@[simp] theorem State.withMem_diag (s : State) (m : Memory) : (s.withMem m).diag = s.diag := rfl
@[simp] theorem State.withMem_draws (s : State) (m : Memory) : (s.withMem m).draws = s.draws := rfl
@[simp] theorem State.withMem_cfg (s : State) (m : Memory) : (s.withMem m).cfg = s.cfg := rfl

/-! ### withStatus -/

@[simp] theorem State.withStatus_ax (s : State) (st : Status) : (s.withStatus st).ax = s.ax := rfl
@[simp] theorem State.withStatus_bx (s : State) (st : Status) : (s.withStatus st).bx = s.bx := rfl
@[simp] theorem State.withStatus_cx (s : State) (st : Status) : (s.withStatus st).cx = s.cx := rfl
@[simp] theorem State.withStatus_dx (s : State) (st : Status) : (s.withStatus st).dx = s.dx := rfl
@[simp] theorem State.withStatus_sp (s : State) (st : Status) : (s.withStatus st).sp = s.sp := rfl
@[simp] theorem State.withStatus_bp (s : State) (st : Status) : (s.withStatus st).bp = s.bp := rfl
@[simp] theorem State.withStatus_si (s : State) (st : Status) : (s.withStatus st).si = s.si := rfl
@[simp] theorem State.withStatus_di (s : State) (st : Status) : (s.withStatus st).di = s.di := rfl
@[simp] theorem State.withStatus_cs (s : State) (st : Status) : (s.withStatus st).cs = s.cs := rfl
@[simp] theorem State.withStatus_ds (s : State) (st : Status) : (s.withStatus st).ds = s.ds := rfl
@[simp] theorem State.withStatus_ss (s : State) (st : Status) : (s.withStatus st).ss = s.ss := rfl
@[simp] theorem State.withStatus_es (s : State) (st : Status) : (s.withStatus st).es = s.es := rfl
@[simp] theorem State.withStatus_ip (s : State) (st : Status) : (s.withStatus st).ip = s.ip := rfl
@[simp] theorem State.withStatus_flags (s : State) (st : Status) : (s.withStatus st).flags = s.flags := rfl
@[simp] theorem State.withStatus_intDelay (s : State) (st : Status) : (s.withStatus st).intDelay = s.intDelay :=
  rfl
@[simp] theorem State.withStatus_status (s : State) (st : Status) : (s.withStatus st).status = st := rfl
@[simp] theorem State.withStatus_mem (s : State) (st : Status) : (s.withStatus st).mem = s.mem := rfl
@[simp] theorem State.withStatus_conout (s : State) (st : Status) : (s.withStatus st).conout = s.conout := rfl
@[simp] theorem State.withStatus_diag (s : State) (st : Status) : (s.withStatus st).diag = s.diag := rfl
@[simp] theorem State.withStatus_draws (s : State) (st : Status) : (s.withStatus st).draws = s.draws := rfl
@[simp] theorem State.withStatus_cfg (s : State) (st : Status) : (s.withStatus st).cfg = s.cfg := rfl

/-! ### emitDiag -/

@[simp] theorem State.emitDiag_ax (s : State) (e : DiagEvent) : (s.emitDiag e).ax = s.ax := rfl
@[simp] theorem State.emitDiag_bx (s : State) (e : DiagEvent) : (s.emitDiag e).bx = s.bx := rfl
@[simp] theorem State.emitDiag_cx (s : State) (e : DiagEvent) : (s.emitDiag e).cx = s.cx := rfl
@[simp] theorem State.emitDiag_dx (s : State) (e : DiagEvent) : (s.emitDiag e).dx = s.dx := rfl
@[simp] theorem State.emitDiag_sp (s : State) (e : DiagEvent) : (s.emitDiag e).sp = s.sp := rfl
@[simp] theorem State.emitDiag_bp (s : State) (e : DiagEvent) : (s.emitDiag e).bp = s.bp := rfl
@[simp] theorem State.emitDiag_si (s : State) (e : DiagEvent) : (s.emitDiag e).si = s.si := rfl
@[simp] theorem State.emitDiag_di (s : State) (e : DiagEvent) : (s.emitDiag e).di = s.di := rfl
@[simp] theorem State.emitDiag_cs (s : State) (e : DiagEvent) : (s.emitDiag e).cs = s.cs := rfl
@[simp] theorem State.emitDiag_ds (s : State) (e : DiagEvent) : (s.emitDiag e).ds = s.ds := rfl
@[simp] theorem State.emitDiag_ss (s : State) (e : DiagEvent) : (s.emitDiag e).ss = s.ss := rfl
@[simp] theorem State.emitDiag_es (s : State) (e : DiagEvent) : (s.emitDiag e).es = s.es := rfl
@[simp] theorem State.emitDiag_ip (s : State) (e : DiagEvent) : (s.emitDiag e).ip = s.ip := rfl
@[simp] theorem State.emitDiag_flags (s : State) (e : DiagEvent) : (s.emitDiag e).flags = s.flags := rfl
@[simp] theorem State.emitDiag_intDelay (s : State) (e : DiagEvent) : (s.emitDiag e).intDelay = s.intDelay :=
  rfl
@[simp] theorem State.emitDiag_status (s : State) (e : DiagEvent) : (s.emitDiag e).status = s.status := rfl
@[simp] theorem State.emitDiag_mem (s : State) (e : DiagEvent) : (s.emitDiag e).mem = s.mem := rfl
@[simp] theorem State.emitDiag_conout (s : State) (e : DiagEvent) : (s.emitDiag e).conout = s.conout := rfl
@[simp] theorem State.emitDiag_diag (s : State) (e : DiagEvent) : (s.emitDiag e).diag = s.diag ++ [e] := rfl
@[simp] theorem State.emitDiag_draws (s : State) (e : DiagEvent) : (s.emitDiag e).draws = s.draws := rfl
@[simp] theorem State.emitDiag_cfg (s : State) (e : DiagEvent) : (s.emitDiag e).cfg = s.cfg := rfl

/-! ### emitConout -/

@[simp] theorem State.emitConout_ax (s : State) (bytes : List Byte) : (s.emitConout bytes).ax = s.ax := rfl
@[simp] theorem State.emitConout_bx (s : State) (bytes : List Byte) : (s.emitConout bytes).bx = s.bx := rfl
@[simp] theorem State.emitConout_cx (s : State) (bytes : List Byte) : (s.emitConout bytes).cx = s.cx := rfl
@[simp] theorem State.emitConout_dx (s : State) (bytes : List Byte) : (s.emitConout bytes).dx = s.dx := rfl
@[simp] theorem State.emitConout_sp (s : State) (bytes : List Byte) : (s.emitConout bytes).sp = s.sp := rfl
@[simp] theorem State.emitConout_bp (s : State) (bytes : List Byte) : (s.emitConout bytes).bp = s.bp := rfl
@[simp] theorem State.emitConout_si (s : State) (bytes : List Byte) : (s.emitConout bytes).si = s.si := rfl
@[simp] theorem State.emitConout_di (s : State) (bytes : List Byte) : (s.emitConout bytes).di = s.di := rfl
@[simp] theorem State.emitConout_cs (s : State) (bytes : List Byte) : (s.emitConout bytes).cs = s.cs := rfl
@[simp] theorem State.emitConout_ds (s : State) (bytes : List Byte) : (s.emitConout bytes).ds = s.ds := rfl
@[simp] theorem State.emitConout_ss (s : State) (bytes : List Byte) : (s.emitConout bytes).ss = s.ss := rfl
@[simp] theorem State.emitConout_es (s : State) (bytes : List Byte) : (s.emitConout bytes).es = s.es := rfl
@[simp] theorem State.emitConout_ip (s : State) (bytes : List Byte) : (s.emitConout bytes).ip = s.ip := rfl
@[simp] theorem State.emitConout_flags (s : State) (bytes : List Byte) : (s.emitConout bytes).flags = s.flags :=
  rfl
@[simp] theorem State.emitConout_intDelay (s : State) (bytes : List Byte) : (s.emitConout bytes).intDelay = s.intDelay :=
  rfl
@[simp] theorem State.emitConout_status (s : State) (bytes : List Byte) : (s.emitConout bytes).status = s.status :=
  rfl
@[simp] theorem State.emitConout_mem (s : State) (bytes : List Byte) : (s.emitConout bytes).mem = s.mem := rfl
@[simp] theorem State.emitConout_conout (s : State) (bytes : List Byte) : (s.emitConout bytes).conout = s.conout ++ bytes :=
  rfl
@[simp] theorem State.emitConout_diag (s : State) (bytes : List Byte) : (s.emitConout bytes).diag = s.diag :=
  rfl
@[simp] theorem State.emitConout_draws (s : State) (bytes : List Byte) : (s.emitConout bytes).draws = s.draws :=
  rfl
@[simp] theorem State.emitConout_cfg (s : State) (bytes : List Byte) : (s.emitConout bytes).cfg = s.cfg := rfl

/-! ### drew -/

@[simp] theorem State.drew_ax (s : State) (n : Nat) : (s.drew n).ax = s.ax := rfl
@[simp] theorem State.drew_bx (s : State) (n : Nat) : (s.drew n).bx = s.bx := rfl
@[simp] theorem State.drew_cx (s : State) (n : Nat) : (s.drew n).cx = s.cx := rfl
@[simp] theorem State.drew_dx (s : State) (n : Nat) : (s.drew n).dx = s.dx := rfl
@[simp] theorem State.drew_sp (s : State) (n : Nat) : (s.drew n).sp = s.sp := rfl
@[simp] theorem State.drew_bp (s : State) (n : Nat) : (s.drew n).bp = s.bp := rfl
@[simp] theorem State.drew_si (s : State) (n : Nat) : (s.drew n).si = s.si := rfl
@[simp] theorem State.drew_di (s : State) (n : Nat) : (s.drew n).di = s.di := rfl
@[simp] theorem State.drew_cs (s : State) (n : Nat) : (s.drew n).cs = s.cs := rfl
@[simp] theorem State.drew_ds (s : State) (n : Nat) : (s.drew n).ds = s.ds := rfl
@[simp] theorem State.drew_ss (s : State) (n : Nat) : (s.drew n).ss = s.ss := rfl
@[simp] theorem State.drew_es (s : State) (n : Nat) : (s.drew n).es = s.es := rfl
@[simp] theorem State.drew_ip (s : State) (n : Nat) : (s.drew n).ip = s.ip := rfl
@[simp] theorem State.drew_flags (s : State) (n : Nat) : (s.drew n).flags = s.flags := rfl
@[simp] theorem State.drew_intDelay (s : State) (n : Nat) : (s.drew n).intDelay = s.intDelay := rfl
@[simp] theorem State.drew_status (s : State) (n : Nat) : (s.drew n).status = s.status := rfl
@[simp] theorem State.drew_mem (s : State) (n : Nat) : (s.drew n).mem = s.mem := rfl
@[simp] theorem State.drew_conout (s : State) (n : Nat) : (s.drew n).conout = s.conout := rfl
@[simp] theorem State.drew_diag (s : State) (n : Nat) : (s.drew n).diag = s.diag := rfl
@[simp] theorem State.drew_draws (s : State) (n : Nat) : (s.drew n).draws = s.draws + n := rfl
@[simp] theorem State.drew_cfg (s : State) (n : Nat) : (s.drew n).cfg = s.cfg := rfl

/-! ### endInstruction -/

@[simp] theorem State.endInstruction_ax (s : State) : s.endInstruction.ax = s.ax := rfl
@[simp] theorem State.endInstruction_bx (s : State) : s.endInstruction.bx = s.bx := rfl
@[simp] theorem State.endInstruction_cx (s : State) : s.endInstruction.cx = s.cx := rfl
@[simp] theorem State.endInstruction_dx (s : State) : s.endInstruction.dx = s.dx := rfl
@[simp] theorem State.endInstruction_sp (s : State) : s.endInstruction.sp = s.sp := rfl
@[simp] theorem State.endInstruction_bp (s : State) : s.endInstruction.bp = s.bp := rfl
@[simp] theorem State.endInstruction_si (s : State) : s.endInstruction.si = s.si := rfl
@[simp] theorem State.endInstruction_di (s : State) : s.endInstruction.di = s.di := rfl
@[simp] theorem State.endInstruction_cs (s : State) : s.endInstruction.cs = s.cs := rfl
@[simp] theorem State.endInstruction_ds (s : State) : s.endInstruction.ds = s.ds := rfl
@[simp] theorem State.endInstruction_ss (s : State) : s.endInstruction.ss = s.ss := rfl
@[simp] theorem State.endInstruction_es (s : State) : s.endInstruction.es = s.es := rfl
@[simp] theorem State.endInstruction_ip (s : State) : s.endInstruction.ip = s.ip := rfl
@[simp] theorem State.endInstruction_flags (s : State) : s.endInstruction.flags = s.flags := rfl
@[simp] theorem State.endInstruction_intDelay (s : State) : s.endInstruction.intDelay = s.intDelay - 1 := rfl
@[simp] theorem State.endInstruction_status (s : State) : s.endInstruction.status = s.status := rfl
@[simp] theorem State.endInstruction_mem (s : State) : s.endInstruction.mem = s.mem := rfl
@[simp] theorem State.endInstruction_conout (s : State) : s.endInstruction.conout = s.conout := rfl
@[simp] theorem State.endInstruction_diag (s : State) : s.endInstruction.diag = s.diag := rfl
@[simp] theorem State.endInstruction_draws (s : State) : s.endInstruction.draws = s.draws := rfl
@[simp] theorem State.endInstruction_cfg (s : State) : s.endInstruction.cfg = s.cfg := rfl

/-! ### clearRegs -/

@[simp] theorem State.clearRegs_ax (s : State) : (s.clearRegs).ax = 0 := rfl
@[simp] theorem State.clearRegs_bx (s : State) : (s.clearRegs).bx = 0 := rfl
@[simp] theorem State.clearRegs_cx (s : State) : (s.clearRegs).cx = 0 := rfl
@[simp] theorem State.clearRegs_dx (s : State) : (s.clearRegs).dx = 0 := rfl
@[simp] theorem State.clearRegs_sp (s : State) : (s.clearRegs).sp = 0 := rfl
@[simp] theorem State.clearRegs_bp (s : State) : (s.clearRegs).bp = 0 := rfl
@[simp] theorem State.clearRegs_si (s : State) : (s.clearRegs).si = 0 := rfl
@[simp] theorem State.clearRegs_di (s : State) : (s.clearRegs).di = 0 := rfl
@[simp] theorem State.clearRegs_cs (s : State) : (s.clearRegs).cs = s.cs := rfl
@[simp] theorem State.clearRegs_ds (s : State) : (s.clearRegs).ds = s.ds := rfl
@[simp] theorem State.clearRegs_ss (s : State) : (s.clearRegs).ss = s.ss := rfl
@[simp] theorem State.clearRegs_es (s : State) : (s.clearRegs).es = s.es := rfl
@[simp] theorem State.clearRegs_ip (s : State) : (s.clearRegs).ip = s.ip := rfl
@[simp] theorem State.clearRegs_flags (s : State) : (s.clearRegs).flags = s.flags := rfl
@[simp] theorem State.clearRegs_intDelay (s : State) : (s.clearRegs).intDelay = s.intDelay := rfl
@[simp] theorem State.clearRegs_status (s : State) : (s.clearRegs).status = s.status := rfl
@[simp] theorem State.clearRegs_mem (s : State) : (s.clearRegs).mem = s.mem := rfl
@[simp] theorem State.clearRegs_conout (s : State) : (s.clearRegs).conout = s.conout := rfl
@[simp] theorem State.clearRegs_diag (s : State) : (s.clearRegs).diag = s.diag := rfl
@[simp] theorem State.clearRegs_draws (s : State) : (s.clearRegs).draws = s.draws := rfl
@[simp] theorem State.clearRegs_cfg (s : State) : (s.clearRegs).cfg = s.cfg := rfl

/-! ### Reading what was written -/

/-- R22, R24: a word register reads as it was last written, and a write leaves every other. -/
theorem State.reg16_setReg16 (s : State) (r q : Reg16) (v : Word) :
    (s.setReg16 r v).reg16 q = if q = r then v else s.reg16 q := by
  cases r <;> cases q <;> rfl

@[simp] theorem State.reg16_setReg16_self (s : State) (r : Reg16) (v : Word) :
    (s.setReg16 r v).reg16 r = v := by
  simp [State.reg16_setReg16]

@[simp] theorem State.reg8_setReg8_self (s : State) (r : Reg8) (v : Byte) :
    (s.setReg8 r v).reg8 r = v := by
  cases r <;> simp [State.reg8, State.setReg8, Reg8.isHigh, Reg8.parent, State.reg16, State.setReg16]

/-- R21: a write of one byte register leaves every other. -/
theorem State.reg8_setReg8 (s : State) (r q : Reg8) (v : Byte) :
    (s.setReg8 r v).reg8 q = if q = r then v else s.reg8 q := by
  cases r <;> cases q <;>
    simp [State.reg8, State.setReg8, Reg8.isHigh, Reg8.parent, State.reg16, State.setReg16]

/-- R21: a byte write is seen through the word register. -/
theorem State.reg16_setReg8 (s : State) (r : Reg8) (q : Reg16) (v : Byte) :
    (s.setReg8 r v).reg16 q =
      if q = r.parent then
        if r.isHigh then joinBytes v (lowByte (s.reg16 q)) else joinBytes (highByte (s.reg16 q)) v
      else s.reg16 q := by
  cases r <;> cases q <;> rfl

/-- R21: a word write is seen through its halves. -/
theorem State.reg8_setReg16 (s : State) (r : Reg16) (q : Reg8) (v : Word) :
    (s.setReg16 r v).reg8 q =
      if q.parent = r then (if q.isHigh then highByte v else lowByte v) else s.reg8 q := by
  cases r <;> cases q <;> rfl

/-- R26: a segment register reads as it was last written, and a write leaves every other. -/
theorem State.sreg_setSreg (s : State) (r q : SReg) (v : Word) :
    (s.setSreg r v).sreg q = if q = r then v else s.sreg q := by
  cases r <;> cases q <;> rfl

/-- R146, R277: only a write of SS sets INTDELAY. -/
theorem State.setSreg_intDelay (s : State) (r : SReg) (v : Word) :
    (s.setSreg r v).intDelay = if r = .ss then intDelaySet else s.intDelay := by
  cases r <;> rfl

@[simp] theorem State.reg16_withFlags (s : State) (fl : Word) (q : Reg16) :
    (s.withFlags fl).reg16 q = s.reg16 q := by cases q <;> rfl
@[simp] theorem State.reg8_withFlags (s : State) (fl : Word) (q : Reg8) :
    (s.withFlags fl).reg8 q = s.reg8 q := by cases q <;> rfl
@[simp] theorem State.sreg_withFlags (s : State) (fl : Word) (q : SReg) :
    (s.withFlags fl).sreg q = s.sreg q := by cases q <;> rfl
@[simp] theorem State.phys_withFlags (s : State) (fl : Word) (seg off : Word) :
    (s.withFlags fl).phys seg off = s.phys seg off := rfl

@[simp] theorem State.reg16_withIp (s : State) (v : Word) (q : Reg16) :
    (s.withIp v).reg16 q = s.reg16 q := by cases q <;> rfl
@[simp] theorem State.reg8_withIp (s : State) (v : Word) (q : Reg8) :
    (s.withIp v).reg8 q = s.reg8 q := by cases q <;> rfl
@[simp] theorem State.sreg_withIp (s : State) (v : Word) (q : SReg) :
    (s.withIp v).sreg q = s.sreg q := by cases q <;> rfl
@[simp] theorem State.phys_withIp (s : State) (v : Word) (seg off : Word) :
    (s.withIp v).phys seg off = s.phys seg off := rfl

@[simp] theorem State.reg16_withMem (s : State) (m : Memory) (q : Reg16) :
    (s.withMem m).reg16 q = s.reg16 q := by cases q <;> rfl
@[simp] theorem State.reg8_withMem (s : State) (m : Memory) (q : Reg8) :
    (s.withMem m).reg8 q = s.reg8 q := by cases q <;> rfl
@[simp] theorem State.sreg_withMem (s : State) (m : Memory) (q : SReg) :
    (s.withMem m).sreg q = s.sreg q := by cases q <;> rfl
@[simp] theorem State.phys_withMem (s : State) (m : Memory) (seg off : Word) :
    (s.withMem m).phys seg off = s.phys seg off := rfl

@[simp] theorem State.reg16_withStatus (s : State) (st : Status) (q : Reg16) :
    (s.withStatus st).reg16 q = s.reg16 q := by cases q <;> rfl
@[simp] theorem State.reg8_withStatus (s : State) (st : Status) (q : Reg8) :
    (s.withStatus st).reg8 q = s.reg8 q := by cases q <;> rfl
@[simp] theorem State.sreg_withStatus (s : State) (st : Status) (q : SReg) :
    (s.withStatus st).sreg q = s.sreg q := by cases q <;> rfl
@[simp] theorem State.phys_withStatus (s : State) (st : Status) (seg off : Word) :
    (s.withStatus st).phys seg off = s.phys seg off := rfl

@[simp] theorem State.reg16_emitDiag (s : State) (e : DiagEvent) (q : Reg16) :
    (s.emitDiag e).reg16 q = s.reg16 q := by cases q <;> rfl
@[simp] theorem State.reg8_emitDiag (s : State) (e : DiagEvent) (q : Reg8) :
    (s.emitDiag e).reg8 q = s.reg8 q := by cases q <;> rfl
@[simp] theorem State.sreg_emitDiag (s : State) (e : DiagEvent) (q : SReg) :
    (s.emitDiag e).sreg q = s.sreg q := by cases q <;> rfl
@[simp] theorem State.phys_emitDiag (s : State) (e : DiagEvent) (seg off : Word) :
    (s.emitDiag e).phys seg off = s.phys seg off := rfl

@[simp] theorem State.reg16_emitConout (s : State) (bytes : List Byte) (q : Reg16) :
    (s.emitConout bytes).reg16 q = s.reg16 q := by cases q <;> rfl
@[simp] theorem State.reg8_emitConout (s : State) (bytes : List Byte) (q : Reg8) :
    (s.emitConout bytes).reg8 q = s.reg8 q := by cases q <;> rfl
@[simp] theorem State.sreg_emitConout (s : State) (bytes : List Byte) (q : SReg) :
    (s.emitConout bytes).sreg q = s.sreg q := by cases q <;> rfl
@[simp] theorem State.phys_emitConout (s : State) (bytes : List Byte) (seg off : Word) :
    (s.emitConout bytes).phys seg off = s.phys seg off := rfl

@[simp] theorem State.reg16_drew (s : State) (n : Nat) (q : Reg16) :
    (s.drew n).reg16 q = s.reg16 q := by cases q <;> rfl
@[simp] theorem State.reg8_drew (s : State) (n : Nat) (q : Reg8) :
    (s.drew n).reg8 q = s.reg8 q := by cases q <;> rfl
@[simp] theorem State.sreg_drew (s : State) (n : Nat) (q : SReg) :
    (s.drew n).sreg q = s.sreg q := by cases q <;> rfl
@[simp] theorem State.phys_drew (s : State) (n : Nat) (seg off : Word) :
    (s.drew n).phys seg off = s.phys seg off := rfl

@[simp] theorem State.sreg_setReg16 (s : State) (r : Reg16) (v : Word) (q : SReg) :
    (s.setReg16 r v).sreg q = s.sreg q := by cases r <;> cases q <;> rfl
@[simp] theorem State.phys_setReg16 (s : State) (r : Reg16) (v seg off : Word) :
    (s.setReg16 r v).phys seg off = s.phys seg off := by cases r <;> rfl
@[simp] theorem State.sreg_setReg8 (s : State) (r : Reg8) (v : Byte) (q : SReg) :
    (s.setReg8 r v).sreg q = s.sreg q := by cases r <;> cases q <;> rfl
@[simp] theorem State.phys_setReg8 (s : State) (r : Reg8) (v : Byte) (seg off : Word) :
    (s.setReg8 r v).phys seg off = s.phys seg off := by cases r <;> rfl
@[simp] theorem State.reg16_setSreg (s : State) (r : SReg) (v : Word) (q : Reg16) :
    (s.setSreg r v).reg16 q = s.reg16 q := by cases r <;> cases q <;> rfl
@[simp] theorem State.reg8_setSreg (s : State) (r : SReg) (v : Word) (q : Reg8) :
    (s.setSreg r v).reg8 q = s.reg8 q := by cases r <;> cases q <;> rfl
@[simp] theorem State.phys_setSreg (s : State) (r : SReg) (v seg off : Word) :
    (s.setSreg r v).phys seg off = s.phys seg off := by cases r <;> rfl
@[simp] theorem State.setSreg_cs (s : State) (r : SReg) (v : Word) :
    (s.setSreg r v).cs = if r = .cs then v else s.cs := by cases r <;> rfl
@[simp] theorem State.setSreg_ds (s : State) (r : SReg) (v : Word) :
    (s.setSreg r v).ds = if r = .ds then v else s.ds := by cases r <;> rfl
@[simp] theorem State.setSreg_ss (s : State) (r : SReg) (v : Word) :
    (s.setSreg r v).ss = if r = .ss then v else s.ss := by cases r <;> rfl
@[simp] theorem State.setSreg_es (s : State) (r : SReg) (v : Word) :
    (s.setSreg r v).es = if r = .es then v else s.es := by cases r <;> rfl

end Sys2Proof.Machine
end

