-- ==== Sys2Proof/Laws/Ops.lean ====
section
/-! SUPPORT. One lemma for each shared operation that says all it can do: the outcomes of an instruction, the
reads and writes of memory (spec/20_memory.md R64 to R66), the r/m operand (spec/30_encoding.md R104) and the
stack primitives (spec/45_stack.md R270, R271). Provers cite these instead of unfolding. -/

namespace Sys2Proof.Machine

/-! ### Outcomes -/

theorem except_bind_eq_ok {α β : Type} {x : Except Fault α} {f : α → Except Fault β} {b : β} :
    x.bind f = .ok b ↔ ∃ a, x = .ok a ∧ f a = .ok b := by
  cases x <;> simp [Except.bind]

theorem except_bind_eq_error {α β : Type} {x : Except Fault α} {f : α → Except Fault β} {e : Fault} :
    x.bind f = .error e ↔ x = .error e ∨ ∃ a, x = .ok a ∧ f a = .error e := by
  cases x <;> simp [Except.bind]

theorem except_map_eq_ok {α β : Type} {x : Except Fault α} {f : α → β} {b : β} :
    x.map f = .ok b ↔ ∃ a, x = .ok a ∧ f a = b := by
  cases x <;> simp [Except.map]

theorem except_map_eq_error {α β : Type} {x : Except Fault α} {f : α → β} {e : Fault} :
    x.map f = .error e ↔ x = .error e := by
  cases x <;> simp [Except.map]

@[simp] theorem finish_eq_next {x : Except Fault State} {t : State} :
    finish x = .next t ↔ x = .ok t := by
  cases x <;> simp [finish]

@[simp] theorem finish_eq_fault {x : Except Fault State} {f : Fault} :
    finish x = .fault f ↔ x = .error f := by
  cases x <;> simp [finish]

/-- An instruction that completes or faults is not refused. -/
@[simp] theorem finish_ne_refused {x : Except Fault State} {r : Refusal} : finish x ≠ .refused r := by
  cases x <;> simp [finish]

/-! ### Addresses -/

/-- R61: the parameters alone decide the address model. -/
theorem State.phys_congr {s t : State} (h : t.cfg = s.cfg) (seg off : Word) :
    t.phys seg off = s.phys seg off := by
  simp [State.phys, h]

/-- R61: the physical address of the next offset of a segment. -/
theorem State.phys_succ (s : State) (seg : Word) {off : Word} (ho : off ≠ 0xFFFF) :
    s.phys seg (off + 1) =
      match s.cfg.addrModel with
      | .banked64k => s.phys seg off + 1
      | .real8086 => (s.phys seg off + 1) % memSize := by
  have h : (off + 1).toNat = off.toNat + 1 := by bv_omega
  cases hm : s.cfg.addrModel <;> simp only [State.phys, Machine.phys, hm, h, memSize] <;> omega

/-- Where the second byte of a word is in the store, so is the first. -/
theorem State.phys_lt_of_succ {s : State} {seg off : Word} (ho : off ≠ 0xFFFF)
    (h : s.phys seg (off + 1) < memSize) : s.phys seg off < memSize := by
  rw [State.phys_succ s seg ho] at h
  unfold State.phys at h ⊢
  revert h
  cases s.cfg.addrModel with
  | banked64k => exact Nat.lt_of_succ_lt
  | real8086 => exact fun _ => Nat.mod_lt _ (by decide)

/-- The two bytes of a word are at different addresses. -/
theorem State.phys_ne_succ (s : State) (seg : Word) {off : Word} (ho : off ≠ 0xFFFF) :
    s.phys seg off ≠ s.phys seg (off + 1) := by
  rw [State.phys_succ s seg ho]
  cases hm : s.cfg.addrModel <;> simp only [State.phys, Machine.phys, hm, memSize] <;> omega

/-! ### Reads of memory -/

/-- R64, n = 1. -/
theorem State.memRead8_eq_ok {s : State} {seg off : Word} {v : Byte} :
    s.memRead8 seg off = .ok v ↔ s.phys seg off < memSize ∧ v = s.mem.read (s.phys seg off) := by
  unfold State.memRead8
  split <;> simp_all [eq_comm]

/-- R64, n = 1: the one way to fault. -/
theorem State.memRead8_eq_error {s : State} {seg off : Word} {f : Fault} :
    s.memRead8 seg off = .error f ↔ memSize ≤ s.phys seg off ∧ f = .memBounds := by
  unfold State.memRead8
  split <;> simp_all [eq_comm]

/-- R64, n = 2. -/
theorem State.memRead16_eq_ok {s : State} {seg off v : Word} :
    s.memRead16 seg off = .ok v ↔
      off ≠ 0xFFFF ∧ s.phys seg (off + 1) < memSize ∧
        v = joinBytes (s.mem.read (s.phys seg (off + 1))) (s.mem.read (s.phys seg off)) := by
  unfold State.memRead16
  split
  · simp_all
  · split <;> simp_all [eq_comm]

/-- R64, R66, n = 2: the two ways to fault. -/
theorem State.memRead16_eq_error {s : State} {seg off : Word} {f : Fault} :
    s.memRead16 seg off = .error f ↔
      off = 0xFFFF ∧ f = .segmentWrap ∨
        off ≠ 0xFFFF ∧ memSize ≤ s.phys seg (off + 1) ∧ f = .memBounds := by
  unfold State.memRead16
  split
  · simp_all [eq_comm]
  · split
    · simp_all
    · simp_all [eq_comm]

/-! ### Writes of memory -/

/-- R65, n = 1. -/
theorem State.memWrite8_eq_ok {s t : State} {seg off : Word} {v : Byte} :
    s.memWrite8 seg off v = .ok t ↔
      s.phys seg off < memSize ∧ t = s.withMem (s.mem.write (s.phys seg off) v) := by
  unfold State.memWrite8
  split <;> simp_all [eq_comm]

/-- R65, n = 1: the one way to fault, which is that of a read. -/
theorem State.memWrite8_eq_error {s : State} {seg off : Word} {v : Byte} {f : Fault} :
    s.memWrite8 seg off v = .error f ↔ memSize ≤ s.phys seg off ∧ f = .memBounds := by
  unfold State.memWrite8
  split <;> simp_all [eq_comm]

/-- R65, n = 2. -/
theorem State.memWrite16_eq_ok {s t : State} {seg off v : Word} :
    s.memWrite16 seg off v = .ok t ↔
      off ≠ 0xFFFF ∧ s.phys seg (off + 1) < memSize ∧
        t = s.withMem
          ((s.mem.write (s.phys seg off) (lowByte v)).write (s.phys seg (off + 1)) (highByte v)) := by
  unfold State.memWrite16
  split
  · simp_all
  · split <;> simp_all [eq_comm]

/-- R65, R66, n = 2: the two ways to fault, which are those of a read. -/
theorem State.memWrite16_eq_error {s : State} {seg off v : Word} {f : Fault} :
    s.memWrite16 seg off v = .error f ↔
      off = 0xFFFF ∧ f = .segmentWrap ∨
        off ≠ 0xFFFF ∧ memSize ≤ s.phys seg (off + 1) ∧ f = .memBounds := by
  unfold State.memWrite16
  split
  · simp_all [eq_comm]
  · split
    · simp_all
    · simp_all [eq_comm]

/-- R65: the byte written reads back. -/
theorem State.memRead8_withMem_write {s : State} (h : s.mem.wf = true) {seg off : Word} {v : Byte}
    (hb : s.phys seg off < memSize) :
    (s.withMem (s.mem.write (s.phys seg off) v)).memRead8 seg off = .ok v := by
  rw [State.memRead8_eq_ok]
  simp [hb, Memory.read_write h]

/-- R65, R63: the word written reads back. -/
theorem State.memRead16_withMem_write {s : State} (h : s.mem.wf = true) {seg off v : Word}
    (ho : off ≠ 0xFFFF) (hb : s.phys seg (off + 1) < memSize) :
    (s.withMem ((s.mem.write (s.phys seg off) (lowByte v)).write (s.phys seg (off + 1))
      (highByte v))).memRead16 seg off = .ok v := by
  rw [State.memRead16_eq_ok]
  have h1 := Memory.wf_write (v := lowByte v) h (State.phys_lt_of_succ ho hb)
  refine ⟨ho, hb, ?_⟩
  simp only [Memory.read_write h1, Memory.read_write h, if_neg (State.phys_ne_succ s seg ho), State.withMem_mem,
    State.phys_withMem, if_true, joinBytes_high_low]

/-- A state that differs in neither MEM nor the parameters reads the same byte. -/
theorem State.memRead8_congr {s t : State} (hm : t.mem = s.mem) (hc : t.cfg = s.cfg) (seg off : Word) :
    t.memRead8 seg off = s.memRead8 seg off := by
  simp [State.memRead8, State.phys_congr hc, hm]

/-- A state that differs in neither MEM nor the parameters reads the same word. -/
theorem State.memRead16_congr {s t : State} (hm : t.mem = s.mem) (hc : t.cfg = s.cfg) (seg off : Word) :
    t.memRead16 seg off = s.memRead16 seg off := by
  simp [State.memRead16, State.phys_congr hc, hm]

/-! ### The r/m operand -/

/-- R104 `WriteRM(8, v)`: the two things it can be. -/
theorem State.writeLoc8_eq_ok {s t : State} {loc : Loc Reg8} {v : Byte} :
    s.writeLoc8 loc v = .ok t ↔
      (∃ r, loc = .reg r ∧ t = s.setReg8 r v) ∨
        ∃ seg off, loc = .mem seg off ∧ s.phys seg off < memSize ∧
          t = s.withMem (s.mem.write (s.phys seg off) v) := by
  cases loc with
  | reg r => simp [State.writeLoc8, eq_comm]
  | mem seg off => simp [State.writeLoc8, State.memWrite8_eq_ok]

/-- R104 `WriteRM(16, v)`: the two things it can be. -/
theorem State.writeLoc16_eq_ok {s t : State} {loc : Loc Reg16} {v : Word} :
    s.writeLoc16 loc v = .ok t ↔
      (∃ r, loc = .reg r ∧ t = s.setReg16 r v) ∨
        ∃ seg off, loc = .mem seg off ∧ off ≠ 0xFFFF ∧ s.phys seg (off + 1) < memSize ∧
          t = s.withMem
            ((s.mem.write (s.phys seg off) (lowByte v)).write (s.phys seg (off + 1)) (highByte v)) := by
  cases loc with
  | reg r => simp [State.writeLoc16, eq_comm]
  | mem seg off => simp [State.writeLoc16, State.memWrite16_eq_ok]

/-- R166: a byte operand that could be read can be written, and reads as it was written. `s'` is the state
after changes to neither MEM nor the parameters. -/
theorem State.writeLoc8_of_read {s s' : State} {loc : Loc Reg8} {old : Byte} (v : Byte)
    (h : s.readLoc8 loc = .ok old) (hm : s'.mem = s.mem) (hc : s'.cfg = s.cfg)
    (hw : s.mem.wf = true) : ∃ t, s'.writeLoc8 loc v = .ok t ∧ t.readLoc8 loc = .ok v := by
  cases loc with
  | reg r => exact ⟨_, rfl, by simp [State.readLoc8]⟩
  | mem seg off =>
    rw [State.readLoc8, State.memRead8_eq_ok] at h
    have hb : s'.phys seg off < memSize := by rw [State.phys_congr hc]; exact h.1
    exact ⟨_, State.memWrite8_eq_ok.mpr ⟨hb, rfl⟩,
      State.memRead8_withMem_write (by rw [hm]; exact hw) hb⟩

/-- R166: a word operand that could be read can be written, and reads as it was written. -/
theorem State.writeLoc16_of_read {s s' : State} {loc : Loc Reg16} {old : Word} (v : Word)
    (h : s.readLoc16 loc = .ok old) (hm : s'.mem = s.mem) (hc : s'.cfg = s.cfg)
    (hw : s.mem.wf = true) : ∃ t, s'.writeLoc16 loc v = .ok t ∧ t.readLoc16 loc = .ok v := by
  cases loc with
  | reg r => exact ⟨_, rfl, by simp [State.readLoc16]⟩
  | mem seg off =>
    rw [State.readLoc16, State.memRead16_eq_ok] at h
    have hb : s'.phys seg (off + 1) < memSize := by rw [State.phys_congr hc]; exact h.2.1
    exact ⟨_, State.memWrite16_eq_ok.mpr ⟨h.1, hb, rfl⟩,
      State.memRead16_withMem_write (by rw [hm]; exact hw) h.1 hb⟩

/-- R166: a byte operand that cannot be read cannot be written, with the same fault. -/
theorem State.writeLoc8_error_of_read {s s' : State} {loc : Loc Reg8} {f : Fault} (v : Byte)
    (h : s.readLoc8 loc = .error f) (hc : s'.cfg = s.cfg) : s'.writeLoc8 loc v = .error f := by
  cases loc with
  | reg r => cases h
  | mem seg off =>
    rw [State.readLoc8, State.memRead8_eq_error] at h
    rw [State.writeLoc8, State.memWrite8_eq_error, State.phys_congr hc]
    exact h

/-- R166: a word operand that cannot be read cannot be written, with the same fault. -/
theorem State.writeLoc16_error_of_read {s s' : State} {loc : Loc Reg16} {f : Fault} (v : Word)
    (h : s.readLoc16 loc = .error f) (hc : s'.cfg = s.cfg) : s'.writeLoc16 loc v = .error f := by
  cases loc with
  | reg r => cases h
  | mem seg off =>
    rw [State.readLoc16, State.memRead16_eq_error] at h
    rw [State.writeLoc16, State.memWrite16_eq_error, State.phys_congr hc]
    exact h

/-- The parameters alone decide whether a byte of memory can be accessed: where a read faults, a read and a
write in a state with the same parameters fault the same. -/
theorem State.memAccess8_error_of_read {s t : State} {seg off : Word} {f : Fault}
    (h : s.memRead8 seg off = .error f) (hc : t.cfg = s.cfg) :
    t.memRead8 seg off = .error f ∧ ∀ v, t.memWrite8 seg off v = .error f := by
  simpa [State.memRead8_eq_error, State.memWrite8_eq_error, State.phys_congr hc] using h

/-- The same for a word of memory. -/
theorem State.memAccess16_error_of_read {s t : State} {seg off : Word} {f : Fault}
    (h : s.memRead16 seg off = .error f) (hc : t.cfg = s.cfg) :
    t.memRead16 seg off = .error f ∧ ∀ v, t.memWrite16 seg off v = .error f := by
  simpa only [State.memRead16_eq_error, State.memWrite16_eq_error, State.phys_congr hc, forall_const,
    and_self] using h

/-- A write of a byte operand leaves the flags word. -/
theorem State.writeLoc8_flags {s t : State} {loc : Loc Reg8} {v : Byte} (h : s.writeLoc8 loc v = .ok t) :
    t.flags = s.flags := by
  obtain ⟨r, -, rfl⟩ | ⟨seg, off, -, -, rfl⟩ := State.writeLoc8_eq_ok.mp h <;> simp

/-- A write of a word operand leaves the flags word. -/
theorem State.writeLoc16_flags {s t : State} {loc : Loc Reg16} {v : Word} (h : s.writeLoc16 loc v = .ok t) :
    t.flags = s.flags := by
  obtain ⟨r, -, rfl⟩ | ⟨seg, off, -, -, -, rfl⟩ := State.writeLoc16_eq_ok.mp h <;> simp

/-! ### Stack -/

/-- R270: what `Push16` leaves. -/
theorem State.push16_eq_ok {s t : State} {v : Word} :
    s.push16 v = .ok t ↔
      s.sp - 2 ≠ 0xFFFF ∧ s.phys s.ss (s.sp - 2 + 1) < memSize ∧
        t = (s.setReg16 .sp (s.sp - 2)).withMem
          ((s.mem.write (s.phys s.ss (s.sp - 2)) (lowByte v)).write
            (s.phys s.ss (s.sp - 2 + 1)) (highByte v)) := by
  unfold State.push16
  rw [State.memWrite16_eq_ok]
  simp

/-- R271: what `Pop16` leaves. -/
theorem State.pop16_eq_ok {s : State} {r : Word × State} :
    s.pop16 = .ok r ↔
      s.sp ≠ 0xFFFF ∧ s.phys s.ss (s.sp + 1) < memSize ∧
        r = (joinBytes (s.mem.read (s.phys s.ss (s.sp + 1))) (s.mem.read (s.phys s.ss s.sp)),
          s.setReg16 .sp (s.sp + 2)) := by
  unfold State.pop16
  rw [except_map_eq_ok]
  constructor
  · rintro ⟨v, hv, rfl⟩
    rw [State.memRead16_eq_ok] at hv
    obtain ⟨h1, h2, rfl⟩ := hv
    exact ⟨h1, h2, rfl⟩
  · rintro ⟨h1, h2, rfl⟩
    exact ⟨_, State.memRead16_eq_ok.mpr ⟨h1, h2, rfl⟩, rfl⟩

/-- R270: where the stack word can be read, `Push16` completes, and the word pushed reads back. -/
theorem State.push16_of_read {s : State} {old : Word} (v : Word)
    (h : s.memRead16 s.ss (s.sp - 2) = .ok old) (hw : s.mem.wf = true) :
    ∃ m : Memory, m.wf = true ∧ s.push16 v = .ok ((s.setReg16 .sp (s.sp - 2)).withMem m) ∧
      ((s.setReg16 .sp (s.sp - 2)).withMem m).memRead16 s.ss (s.sp - 2) = .ok v ∧
      ∀ a, a ≠ s.phys s.ss (s.sp - 2) → a ≠ s.phys s.ss (s.sp - 2 + 1) → m.read a = s.mem.read a := by
  obtain ⟨h1, h2, -⟩ := State.memRead16_eq_ok.mp h
  have h3 := Memory.wf_write (v := lowByte v) hw (State.phys_lt_of_succ h1 h2)
  refine ⟨_, Memory.wf_write h3 h2, State.push16_eq_ok.mpr ⟨h1, h2, rfl⟩, ?_, fun a ha ha' => ?_⟩
  · exact State.memRead16_withMem_write (s := s.setReg16 .sp (s.sp - 2)) hw h1 h2
  · rw [Memory.read_write_other ha', Memory.read_write_other ha]

/-- R271: where the stack word can be read, `Pop16` completes with it. -/
theorem State.pop16_of_read {s : State} {v : Word} (h : s.memRead16 s.ss s.sp = .ok v) :
    s.pop16 = .ok (v, s.setReg16 .sp (s.sp + 2)) := by
  unfold State.pop16
  rw [h]
  rfl

/-- R270: where the stack word cannot be read, `Push16` ends in that fault. -/
theorem State.push16_error_of_read {s : State} {f : Fault} (v : Word)
    (h : s.memRead16 s.ss (s.sp - 2) = .error f) : s.push16 v = .error f :=
  (State.memAccess16_error_of_read h (State.setReg16_cfg s .sp (s.sp - 2))).2 v

/-- R271: where the stack word cannot be read, `Pop16` ends in that fault. -/
theorem State.pop16_error_of_read {s : State} {f : Fault} (h : s.memRead16 s.ss s.sp = .error f) :
    s.pop16 = .error f :=
  except_map_eq_error.mpr h

end Sys2Proof.Machine
end

