-- ==== Sys2Proof/Laws/Exec.lean ====
section
/-! SUPPORT. The instructions by the shared operation each of them is, said once: what holds of the outcome of
every shared operation holds of the outcome of every instruction. -/

namespace Sys2Proof.Machine

/-- What holds of every outcome of every shared operation in a state holds of `exec` of every instruction
there. One hypothesis for each shared operation. -/
theorem exec_of_operations {P : Result → Prop} {s : State}
    (hAluRm8 : ∀ op rm v, P (finish (aluRm8 op rm v s)))
    (hAluRm16 : ∀ op rm v, P (finish (aluRm16 op rm v s)))
    (hAluReg8 : ∀ op r v, P (finish (aluReg8 op r v s)))
    (hAluReg16 : ∀ op r v, P (finish (aluReg16 op r v s)))
    (hAluReg8FromRm : ∀ op r rm, P (finish (aluReg8FromRm op r rm s)))
    (hAluReg16FromRm : ∀ op r rm, P (finish (aluReg16FromRm op r rm s)))
    (hIncDecReg16 : ∀ op r, P (finish (incDecReg16 op r s)))
    (hIncDecRm8 : ∀ op rm, P (finish (incDecRm8 op rm s)))
    (hIncDecRm16 : ∀ op rm, P (finish (incDecRm16 op rm s)))
    (hMoveToRm8 : ∀ rm v, P (finish (moveToRm8 rm v s)))
    (hMoveToRm16 : ∀ rm v, P (finish (moveToRm16 rm v s)))
    (hMoveToReg8 : ∀ r rm, P (finish (moveToReg8 r rm s)))
    (hMoveToReg16 : ∀ r rm, P (finish (moveToReg16 r rm s)))
    (hMoveImm8 : ∀ r v, P (finish (moveImm8 r v s)))
    (hMoveImm16 : ∀ r v, P (finish (moveImm16 r v s)))
    (hMoveToSreg : ∀ r rm, r ≠ .cs → P (finish (moveToSreg r rm s)))
    (hLoadDirect8 : ∀ off, P (finish (loadDirect8 off s)))
    (hLoadDirect16 : ∀ off, P (finish (loadDirect16 off s)))
    (hStoreDirect8 : ∀ off, P (finish (storeDirect8 off s)))
    (hStoreDirect16 : ∀ off, P (finish (storeDirect16 off s)))
    (hDaa : P (finish (adjustAfterAddDecimal s)))
    (hDas : P (finish (adjustAfterSubDecimal s)))
    (hAaa : P (finish (adjustAfterAddAscii s)))
    (hAas : P (finish (adjustAfterSubAscii s)))
    (hAam : ∀ base, P (finish (splitByBase base s)))
    (hAad : ∀ base, P (finish (foldByBase base s)))
    (hShiftRm8 : ∀ op rm n, P (finish (shiftRm8 op rm n s)))
    (hShiftRm16 : ∀ op rm n, P (finish (shiftRm16 op rm n s)))
    (hCopy8 : P (finish (copyElement8 s)))
    (hCopy16 : P (finish (copyElement16 s)))
    (hCompare8 : P (finish (compareElements8 s)))
    (hCompare16 : P (finish (compareElements16 s)))
    (hStore8 : P (finish (storeElement8 s)))
    (hStore16 : P (finish (storeElement16 s)))
    (hLoad8 : P (finish (loadElement8 s)))
    (hLoad16 : P (finish (loadElement16 s)))
    (hScan8 : P (finish (scanElement8 s)))
    (hScan16 : P (finish (scanElement16 s)))
    (hPushValue : ∀ v, P (finish (pushValue v s)))
    (hPushReg16 : ∀ r, P (finish (pushReg16 r s)))
    (hPushRm : ∀ rm, P (finish (pushRm rm s)))
    (hPopReg16 : ∀ r, P (finish (popReg16 r s)))
    (hPopSreg : ∀ r, r ≠ .cs → P (finish (popSreg r s)))
    (hPopRm : ∀ rm, P (finish (popRm rm s)))
    (hJumpBy : ∀ d, P (finish (jumpBy d s)))
    (hJumpFarTo : ∀ off seg, P (finish (jumpFarTo off seg s)))
    (hCallNearBy : ∀ d, P (finish (callNearBy d s)))
    (hCallFarTo : ∀ off seg, P (finish (callFarTo off seg s)))
    (hReturnNear : ∀ n, P (finish (returnNear n s)))
    (hReturnFar : ∀ n, P (finish (returnFar n s)))
    (hJumpIf : ∀ c rel, P (finish (jumpIf c rel s)))
    (hJumpIfCxZero : ∀ rel, P (finish (jumpIfCxZero rel s)))
    (hLoopOn : ∀ k rel, P (finish (loopOn k rel s)))
    (hBridge : ∀ n, P (finish (bridge n s)))
    (hHalt : P (.next (raiseTerminate 0 s)))
    (hUnsupported : ∀ op n, P (.next (raiseUnsupported op n s))) :
    ∀ i, P (exec i s) := by
  intro i
  cases i with
  | addRm8R8 | orRm8R8 | adcRm8R8 | sbbRm8R8 | andRm8R8 | subRm8R8 | xorRm8R8 | cmpRm8R8
    | addRm8Imm8 | orRm8Imm8 | adcRm8Imm8 | sbbRm8Imm8 | andRm8Imm8 | subRm8Imm8 | xorRm8Imm8
    | cmpRm8Imm8 => exact hAluRm8 _ _ _
  | addRm16R16 | orRm16R16 | adcRm16R16 | sbbRm16R16 | andRm16R16 | subRm16R16 | xorRm16R16
    | cmpRm16R16 | addRm16Imm16 | orRm16Imm16 | adcRm16Imm16 | sbbRm16Imm16 | andRm16Imm16
    | subRm16Imm16 | xorRm16Imm16 | cmpRm16Imm16 | addRm16Simm8 | orRm16Simm8 | adcRm16Simm8
    | sbbRm16Simm8 | andRm16Simm8 | subRm16Simm8 | xorRm16Simm8 | cmpRm16Simm8 => exact hAluRm16 _ _ _
  | addR8Rm8 | orR8Rm8 | adcR8Rm8 | sbbR8Rm8 | andR8Rm8 | subR8Rm8 | xorR8Rm8 | cmpR8Rm8 =>
    exact hAluReg8FromRm _ _ _
  | addR16Rm16 | orR16Rm16 | adcR16Rm16 | sbbR16Rm16 | andR16Rm16 | subR16Rm16 | xorR16Rm16
    | cmpR16Rm16 => exact hAluReg16FromRm _ _ _
  | addAlImm8 | orAlImm8 | adcAlImm8 | sbbAlImm8 | andAlImm8 | subAlImm8 | xorAlImm8 | cmpAlImm8 =>
    exact hAluReg8 _ _ _
  | addAxImm16 | orAxImm16 | adcAxImm16 | sbbAxImm16 | andAxImm16 | subAxImm16 | xorAxImm16
    | cmpAxImm16 => exact hAluReg16 _ _ _
  | pushEs | pushCs | pushSs | pushDs => exact hPushValue _
  | popEs | popSs | popDs => exact hPopSreg _ (by decide)
  | tierXPopCs | tierXEsPrefix | tierXCsPrefix | tierXSsPrefix | tierXDsPrefix | tierXPusha
    | tierXPopa | tierXBound | tierXUndefined63 | tierXUndefined64 | tierXUndefined65
    | tierXUndefined66 | tierXUndefined67 | tierXPushImm16 | tierXImulR16Rm16Imm16 | tierXPushImm8
    | tierXImulR16Rm16Imm8 | tierXInsb | tierXInsw | tierXOutsb | tierXOutsw | tierXGroup1Alias82
    | tierXTestRm8R8 | tierXTestRm16R16 | tierXXchgRm8R8 | tierXXchgRm16R16 | tierXMovRm16Sreg4
    | tierXMovRm16Sreg5 | tierXMovRm16Sreg6 | tierXMovRm16Sreg7 | tierXLea | tierXMovCsRm16
    | tierXMovSreg4Rm16 | tierXMovSreg5Rm16 | tierXMovSreg6Rm16 | tierXMovSreg7Rm16
    | tierXUndefined8F1 | tierXUndefined8F2 | tierXUndefined8F3 | tierXUndefined8F4
    | tierXUndefined8F5 | tierXUndefined8F6 | tierXUndefined8F7 | tierXNop | tierXXchgAxCx
    | tierXXchgAxDx | tierXXchgAxBx | tierXXchgAxSp | tierXXchgAxBp | tierXXchgAxSi | tierXXchgAxDi
    | tierXCbw | tierXCwd | tierXWait | tierXPushf | tierXPopf | tierXSahf | tierXLahf
    | tierXTestAlImm8 | tierXTestAxImm16 | tierXLes | tierXLds | tierXUndefinedC61
    | tierXUndefinedC62 | tierXUndefinedC63 | tierXUndefinedC64 | tierXUndefinedC65
    | tierXUndefinedC66 | tierXUndefinedC67 | tierXUndefinedC71 | tierXUndefinedC72
    | tierXUndefinedC73 | tierXUndefinedC74 | tierXUndefinedC75 | tierXUndefinedC76
    | tierXUndefinedC77 | tierXEnter | tierXLeave | tierXInt3 | tierXInto | tierXIret | tierXSalc
    | tierXXlat | tierXEsc0 | tierXEsc1 | tierXEsc2 | tierXEsc3 | tierXEsc4 | tierXEsc5 | tierXEsc6
    | tierXEsc7 | tierXInAlImm8 | tierXInAxImm8 | tierXOutImm8Al | tierXOutImm8Ax | tierXInAlDx
    | tierXInAxDx | tierXOutDxAl | tierXOutDxAx | tierXLockPrefix | tierXUndefinedF1
    | tierXRepnePrefix | tierXRepRepePrefix | tierXCmc | tierXTestRm8 | tierXTestAliasRm8
    | tierXNotRm8 | tierXNegRm8 | tierXMulRm8 | tierXImulRm8 | tierXDivRm8 | tierXIdivRm8
    | tierXTestRm16 | tierXTestAliasRm16 | tierXNotRm16 | tierXNegRm16 | tierXMulRm16
    | tierXImulRm16 | tierXDivRm16 | tierXIdivRm16 | tierXClc | tierXStc | tierXCli | tierXSti
    | tierXCld | tierXStd | tierXUndefinedFE2 | tierXUndefinedFE3 | tierXUndefinedFE4
    | tierXUndefinedFE5 | tierXUndefinedFE6 | tierXUndefinedFE7 | tierXCallRm16 | tierXCallM16m16
    | tierXJmpRm16 | tierXJmpM16m16 | tierXUndefinedFF7 => exact hUnsupported _ _
  | daa => exact hDaa
  | das => exact hDas
  | aaa => exact hAaa
  | aas => exact hAas
  | incAx | incCx | incDx | incBx | incSp | incBp | incSi | incDi | decAx | decCx | decDx | decBx
    | decSp | decBp | decSi | decDi => exact hIncDecReg16 _ _
  | pushAx | pushCx | pushDx | pushBx | pushSp | pushBp | pushSi | pushDi => exact hPushReg16 _
  | popAx | popCx | popDx | popBx | popSp | popBp | popSi | popDi => exact hPopReg16 _
  | jo | jno | jb | jae | je | jne | jbe | ja | js | jns | jp | jnp | jl | jge | jle | jg =>
    exact hJumpIf _ _
  | movRm8R8 | movRm8Imm8 => exact hMoveToRm8 _ _
  | movRm16R16 | movRm16Es | movRm16Cs | movRm16Ss | movRm16Ds | movRm16Imm16 => exact hMoveToRm16 _ _
  | movR8Rm8 => exact hMoveToReg8 _ _
  | movR16Rm16 => exact hMoveToReg16 _ _
  | movEsRm16 | movSsRm16 | movDsRm16 => exact hMoveToSreg _ _ (by decide)
  | popRm16 => exact hPopRm _
  | callFar => exact hCallFarTo _ _
  | movAlMoffs => exact hLoadDirect8 _
  | movAxMoffs => exact hLoadDirect16 _
  | movMoffsAl => exact hStoreDirect8 _
  | movMoffsAx => exact hStoreDirect16 _
  | movsb => exact hCopy8
  | movsw => exact hCopy16
  | cmpsb => exact hCompare8
  | cmpsw => exact hCompare16
  | stosb => exact hStore8
  | stosw => exact hStore16
  | lodsb => exact hLoad8
  | lodsw => exact hLoad16
  | scasb => exact hScan8
  | scasw => exact hScan16
  | movAlImm8 | movClImm8 | movDlImm8 | movBlImm8 | movAhImm8 | movChImm8 | movDhImm8 | movBhImm8 =>
    exact hMoveImm8 _ _
  | movAxImm16 | movCxImm16 | movDxImm16 | movBxImm16 | movSpImm16 | movBpImm16 | movSiImm16
    | movDiImm16 => exact hMoveImm16 _ _
  | rolRm8Cnt | rorRm8Cnt | rclRm8Cnt | rcrRm8Cnt | shlRm8Cnt | shrRm8Cnt | salRm8Cnt | sarRm8Cnt
    | rolRm8One | rorRm8One | rclRm8One | rcrRm8One | shlRm8One | shrRm8One | salRm8One | sarRm8One
    | rolRm8Cl | rorRm8Cl | rclRm8Cl | rcrRm8Cl | shlRm8Cl | shrRm8Cl | salRm8Cl | sarRm8Cl =>
    exact hShiftRm8 _ _ _
  | rolRm16Cnt | rorRm16Cnt | rclRm16Cnt | rcrRm16Cnt | shlRm16Cnt | shrRm16Cnt | salRm16Cnt
    | sarRm16Cnt | rolRm16One | rorRm16One | rclRm16One | rcrRm16One | shlRm16One | shrRm16One
    | salRm16One | sarRm16One | rolRm16Cl | rorRm16Cl | rclRm16Cl | rcrRm16Cl | shlRm16Cl
    | shrRm16Cl | salRm16Cl | sarRm16Cl => exact hShiftRm16 _ _ _
  | retPop | ret => exact hReturnNear _
  | retfPop | retf => exact hReturnFar _
  | int => exact hBridge _
  | aam => exact hAam _
  | aad => exact hAad _
  | loopne | loope | loop => exact hLoopOn _ _
  | jcxz => exact hJumpIfCxZero _
  | callNear => exact hCallNearBy _
  | jmpNear | jmpShort => exact hJumpBy _
  | jmpFar => exact hJumpFarTo _ _
  | hlt => exact hHalt
  | incRm8 | decRm8 => exact hIncDecRm8 _ _
  | incRm16 | decRm16 => exact hIncDecRm16 _ _
  | pushRm16 => exact hPushRm _

end Sys2Proof.Machine
end

