-- ==== Sys2Proof/Laws/Flags.lean ====
section
/-! SUPPORT. The flags word: a flag reads as it was last written, and a write leaves every other bit
(spec/10_state.md R30, R31). -/

namespace Sys2Proof.Machine

theorem Flag.bit_lt (f : Flag) : f.bit < 16 := by cases f <;> decide

theorem Flag.bit_inj {f g : Flag} : f.bit = g.bit ↔ f = g := by cases f <;> cases g <;> decide

/-- A write of one flag, bit by bit. -/
theorem getLsbD_putFlag (fl : Word) (f : Flag) (b : Bool) (k : Nat) :
    (putFlag fl f b).getLsbD k = if k = f.bit then b else fl.getLsbD k := by
  have hf := f.bit_lt
  unfold putFlag
  by_cases hk : k < 16
  · by_cases h : k = f.bit
    · subst h
      cases b <;> simp [hf]
    · cases b <;> simp [h, hk]
  · have h1 : k ≠ f.bit := by omega
    have h2 : ∀ x : Word, x.getLsbD k = false := fun x => BitVec.getLsbD_of_ge x k (by omega)
    rw [if_neg h1, h2, h2]

@[simp] theorem getFlag_putFlag_self (fl : Word) (f : Flag) (b : Bool) :
    getFlag (putFlag fl f b) f = b := by
  simp [getFlag, getLsbD_putFlag]

/-- R30: each flag has a bit of its own. -/
theorem getFlag_putFlag (fl : Word) (f g : Flag) (b : Bool) :
    getFlag (putFlag fl f b) g = if g = f then b else getFlag fl g := by
  simp [getFlag, getLsbD_putFlag, Flag.bit_inj]

/-- A write of CF, AF and OF, bit by bit. -/
theorem getLsbD_putCarries (fl : Word) (c a o : Bool) (k : Nat) :
    (putCarries fl c a o).getLsbD k =
      if k = Flag.of_.bit then o else if k = Flag.af.bit then a
      else if k = Flag.cf.bit then c else fl.getLsbD k := by
  simp only [putCarries, getLsbD_putFlag]

/-- R163: a write of ZF, SF and PF, bit by bit. -/
theorem getLsbD_setSZP {w : Nat} (r : BitVec w) (fl : Word) (k : Nat) :
    (setSZP r fl).getLsbD k =
      if k = Flag.pf.bit then evenParity r else if k = Flag.sf.bit then r.msb
      else if k = Flag.zf.bit then r == 0 else fl.getLsbD k := by
  simp only [setSZP, getLsbD_putFlag]

/-- R161: a bit outside the six arithmetic flags is kept by the add path. -/
theorem getLsbD_addFlags {w : Nat} (a b : BitVec w) (c : Bool) (fl : Word) (k : Nat)
    (h : k ∉ [0, 2, 4, 6, 7, 11]) : (addFlags a b c fl).2.getLsbD k = fl.getLsbD k := by
  simp only [List.mem_cons, List.not_mem_nil, or_false, not_or] at h
  simp [addFlags, getLsbD_setSZP, getLsbD_putCarries, Flag.bit, h]

/-- R162: a bit outside the six arithmetic flags is kept by the subtract path. -/
theorem getLsbD_subFlags {w : Nat} (a b : BitVec w) (c : Bool) (fl : Word) (k : Nat)
    (h : k ∉ [0, 2, 4, 6, 7, 11]) : (subFlags a b c fl).2.getLsbD k = fl.getLsbD k := by
  simp only [List.mem_cons, List.not_mem_nil, or_false, not_or] at h
  simp [subFlags, getLsbD_setSZP, getLsbD_putCarries, Flag.bit, h]

/-- R164: a bit outside the six arithmetic flags is kept by the logical path. -/
theorem getLsbD_logicFlags {w : Nat} (r : BitVec w) (fl : Word) (k : Nat)
    (h : k ∉ [0, 2, 4, 6, 7, 11]) : (logicFlags r fl).getLsbD k = fl.getLsbD k := by
  simp only [List.mem_cons, List.not_mem_nil, or_false, not_or] at h
  simp [logicFlags, getLsbD_setSZP, getLsbD_putCarries, Flag.bit, h]

end Sys2Proof.Machine

namespace Sys2Proof

open Sys2Proof.Machine

/-- R170 to R177: a two-operand instruction writes no bit outside the six arithmetic flags. -/
theorem AluOp.getLsbD_compute {w : Nat} (op : AluOp) (a b : BitVec w) (fl : Word) (k : Nat)
    (h : k ∉ [0, 2, 4, 6, 7, 11]) : (op.compute a b fl).2.getLsbD k = fl.getLsbD k := by
  cases op <;>
    simp only [AluOp.compute, getLsbD_addFlags _ _ _ _ _ h, getLsbD_subFlags _ _ _ _ _ h,
      getLsbD_logicFlags _ _ _ h]

/-- R178, R179: INC and DEC write no bit outside PF, AF, ZF, SF and OF. -/
theorem IncDec.getLsbD_compute {w : Nat} (op : IncDec) (v : BitVec w) (fl : Word) (k : Nat)
    (h : k ∉ [2, 4, 6, 7, 11]) : (op.compute v fl).2.getLsbD k = fl.getLsbD k := by
  simp only [IncDec.compute, getLsbD_putFlag]
  split
  · subst_vars
    rfl
  · rename_i hk
    have h' : k ∉ [0, 2, 4, 6, 7, 11] := by
      simp only [Flag.bit] at hk
      simp only [List.mem_cons, List.not_mem_nil, or_false, not_or] at h ⊢
      exact ⟨hk, h⟩
    cases op
    · exact getLsbD_addFlags _ _ _ _ _ h'
    · exact getLsbD_subFlags _ _ _ _ _ h'

/-- R225: a shift or rotate writes no bit outside the six arithmetic flags. -/
theorem ShiftOp.getLsbD_compute {w : Nat} (op : ShiftOp) (v : BitVec w) (count : Byte) (fl : Word)
    (k : Nat) (h : k ∉ [0, 2, 4, 6, 7, 11]) : (op.compute v count fl).2.getLsbD k = fl.getLsbD k := by
  have h' := h
  simp only [List.mem_cons, List.not_mem_nil, or_false, not_or] at h'
  simp only [ShiftOp.compute, getLsbD_putFlag, Flag.bit, h', if_false]
  split
  · exact getLsbD_logicFlags _ _ _ h
  · rfl

end Sys2Proof
end

