-- ==== Sys2Proof/Laws/FlagMeaning.lean ====
section
/-! SUPPORT. The flag computations in integer terms: parity as a count of ones, the nibble carry and borrow, the
carry, the borrow and the signed overflow of a sum or difference (spec/41_alu.md R161 to R165). -/

namespace Sys2Proof.Machine

variable {w : Nat}

/-- R163: the flags `setSZP` writes. -/
theorem getFlag_setSZP (r : BitVec w) (fl : Word) (f : Flag) :
    getFlag (setSZP r fl) f =
      if f = .pf then evenParity r else if f = .sf then r.msb
      else if f = .zf then r == 0 else getFlag fl f := by
  simp only [setSZP, getFlag_putFlag]

/-- The flags `putCarries` writes. -/
theorem getFlag_putCarries (fl : Word) (c a o : Bool) (f : Flag) :
    getFlag (putCarries fl c a o) f =
      if f = .of_ then o else if f = .af then a else if f = .cf then c else getFlag fl f := by
  simp only [putCarries, getFlag_putFlag]

/-- The bits counted are the ones of the low byte. -/
theorem countP_getLsbD (r : BitVec w) :
    ((List.range 8).countP fun i => r.getLsbD i) = onesInLowByte r.toNat := by
  have h : ∀ i, r.getLsbD i = decide (r.toNat / 2^i % 2 = 1) := by
    intro i; rw [BitVec.getLsbD, Nat.testBit_eq_decide_div_mod_eq]
  simp only [List.range, List.range.loop, List.countP_cons, List.countP_nil, h, onesInLowByte]
  have hh : ∀ x : Nat, (if decide (x % 2 = 1) = true then 1 else 0) = x % 2 := by
    intro x; split <;> simp_all
  simp only [hh]
  norm_num
  ac_rfl

/-- R163: PF in integer terms. -/
theorem evenParity_eq (r : BitVec w) : evenParity r = decide (onesInLowByte r.toNat % 2 = 0) := by
  unfold evenParity; rw [countP_getLsbD]
  by_cases h : onesInLowByte r.toNat % 2 = 0 <;> simp [h]

/-- R163: `setSZP` leaves the flags of its argument. -/
theorem resultFlags_setSZP (r : BitVec w) (fl : Word) : ResultFlags r (setSZP r fl) := by
  constructor
  · simp [getFlag_setSZP]
    rw [Bool.eq_iff_iff]; simp [BitVec.toNat_eq]
  · simp [getFlag_setSZP, BitVec.msb_eq_decide]
  · simp [getFlag_setSZP, evenParity_eq]

/-- A width above 4 has more than one nibble. -/
theorem thirtyTwo_le_two_pow (hw : 4 < w) : 32 ≤ 2^w := by
      calc 32 = 2^5 := rfl
        _ ≤ _ := Nat.pow_le_pow_right (by omega) (by omega)

/-- R161: the sum, taken modulo 2^w, is that of bit vectors. -/
theorem ofNat_add_add (hw : 4 < w) (a b : BitVec w) (c : Bool) : BitVec.ofNat w (a.toNat + b.toNat + c.toNat) = a + b + BitVec.setWidth w (BitVec.ofBool c) := by
    apply BitVec.eq_of_toNat_eq
    have := thirtyTwo_le_two_pow hw
    cases c <;> simp [BitVec.toNat_ofNat, Nat.mod_eq_of_lt (show 1 < 2^w by omega)]

/-- R165: bit 4 of the exclusive-or is the carry out of bit 3. -/
theorem nibble_carry (hw : 4 < w) (a b : BitVec w) (c : Bool) :
    (a ^^^ b ^^^ BitVec.ofNat w (a.toNat + b.toNat + c.toNat)).getLsbD 4 =
      decide (16 ≤ a.toNat % 16 + b.toNat % 16 + c.toNat) := by
  rw [ofNat_add_add hw, BitVec.getLsbD_xor, BitVec.getLsbD_xor, BitVec.getLsbD_add_add_bool hw, BitVec.carry]
  cases a.getLsbD 4 <;> cases b.getLsbD 4 <;> simp

/-- R165: bit 4 of the exclusive-or is the borrow of bit 3 from bit 4, for a difference `r`. -/
theorem nibble_borrow (hw : 4 < w) (a b : BitVec w) (c : Bool) (r : BitVec w)
   (hr : a = r + b + BitVec.setWidth w (BitVec.ofBool c)) :
    (a ^^^ b ^^^ r).getLsbD 4 =
      decide (a.toNat % 16 < b.toNat % 16 + c.toNat) := by
  have h2 := thirtyTwo_le_two_pow hw
  have hd : 2^w % 16 = 0 := by
    obtain ⟨k, rfl⟩ : ∃ k, w = k + 4 := ⟨w - 4, by omega⟩
    simp [Nat.pow_add]
  have h3 : a.toNat % 16 = (r.toNat + b.toNat + c.toNat) % 16 := by
    rw [hr]
    cases c <;> simp [BitVec.toNat_add, Nat.mod_eq_of_lt (show 1 < 2^w by omega)] <;> 
      rw [Nat.mod_mod_of_dvd _ (Nat.dvd_of_mod_eq_zero hd)]
  have h4 : a.getLsbD 4 = (r + b + BitVec.setWidth w (BitVec.ofBool c)).getLsbD 4 := by rw [← hr]
  rw [BitVec.getLsbD_xor, BitVec.getLsbD_xor, h4, BitVec.getLsbD_add_add_bool hw, BitVec.carry]
  have h5 : (decide (r.toNat % 2^4 + b.toNat % 2^4 + c.toNat ≥ 2^4)) = decide (a.toNat % 16 < b.toNat % 16 + c.toNat) := by
    rw [h3]
    rw [decide_eq_decide]
    cases c <;> simp <;> omega
  rw [h5]
  cases r.getLsbD 4 <;> cases b.getLsbD 4 <;> simp

/-- R161: the sign test is signed overflow of the sum. -/
theorem add_overflow (hw : 4 < w) (a b : BitVec w) (c : Bool) (r : BitVec w) (hr : r = BitVec.ofNat w (a.toNat + b.toNat + c.toNat)) :
  ((a.msb == b.msb) && (r.msb != a.msb)) = outsideSigned w (a.toInt + b.toInt + c.toNat) := by
  have h1 : 2^w = 2 * 2^(w-1) := by
    rw [← Nat.pow_succ']; congr 1; omega
  have h2 : (a.toNat + b.toNat + c.toNat) % 2^w = r.toNat := by rw [hr, BitVec.toNat_ofNat]
  have ha := a.isLt
  have hb := b.isLt
  have hc : c.toNat ≤ 1 := by cases c <;> simp
  unfold outsideSigned
  rw [BitVec.toInt_eq_toNat_cond, BitVec.toInt_eq_toNat_cond]
  rw [BitVec.msb_eq_decide, BitVec.msb_eq_decide, BitVec.msb_eq_decide]
  push_cast
  generalize a.toNat = a at *
  generalize b.toNat = b at *
  generalize c.toNat = c at *
  generalize r.toNat = r at *
  have hp : (2:Int)^(w-1) = ((2^(w-1) : Nat) : Int) := by push_cast; rfl
  have hq : (2:Int)^w = ((2^w : Nat) : Int) := by push_cast; rfl
  rw [hp, hq, h1]
  rw [h1] at h2 ha hb
  generalize 2^(w-1) = p at *
  have h3 : a + b + c < 2 * p ∧ r = a + b + c ∨ 2*p ≤ a+b+c ∧ r = a + b + c - 2*p := by
    by_cases h : a+b+c < 2*p
    · left; rw [Nat.mod_eq_of_lt h] at h2; omega
    · right; rw [Nat.mod_eq_sub_mod (by omega), Nat.mod_eq_of_lt (by omega)] at h2; omega
  clear h2 hr
  rw [Bool.eq_iff_iff]
  simp
  split <;> split <;> by_cases h5 : p ≤ a <;> by_cases h6 : p ≤ b <;> by_cases h7 : p ≤ r <;> simp [h5, h6, h7] <;> omega

/-- R162: the wide difference: its top bit is the borrow, and its low bits are the difference. -/
theorem wide_difference (hw : 4 < w) (a b : BitVec w) (c : Bool) :
   let wide : BitVec (w + 1) := a.setWidth (w + 1) - b.setWidth (w + 1) - BitVec.ofNat (w + 1) c.toNat
   wide.msb = decide (a.toNat < b.toNat + c.toNat) ∧
   wide.setWidth w = BitVec.ofInt w (a.toNat - b.toNat - c.toNat) ∧
   a = wide.setWidth w + b + BitVec.setWidth w (BitVec.ofBool c) ∧
   (wide.setWidth w).toNat = if a.toNat < b.toNat + c.toNat then 2^w + a.toNat - b.toNat - c.toNat else a.toNat - b.toNat - c.toNat := by
  intro wide
  have h2 := thirtyTwo_le_two_pow hw
  have ha := a.isLt
  have hb := b.isLt
  have hc : c.toNat ≤ 1 := by cases c <;> simp
  have e1 : wide.toNat = if a.toNat < b.toNat + c.toNat then 2^(w+1) + a.toNat - b.toNat - c.toNat else a.toNat - b.toNat - c.toNat := by
    simp only [wide, BitVec.toNat_sub, BitVec.toNat_setWidth, BitVec.toNat_ofNat]
    have hp : 2^(w+1) = 2 * 2^w := by rw [Nat.pow_succ']
    rw [hp]
    generalize 2^w = p at *
    rw [Nat.mod_eq_of_lt (show a.toNat < 2*p by omega), Nat.mod_eq_of_lt (show b.toNat < 2*p by omega),
      Nat.mod_eq_of_lt (show c.toNat < 2*p by omega)]
    split
    · rename_i h
      by_cases h' : a.toNat < b.toNat
      · rw [Nat.mod_eq_of_lt (a := 2*p - b.toNat + a.toNat) (by omega), Nat.mod_eq_sub_mod (by omega), Nat.mod_eq_of_lt (by omega)]
        omega
      · rw [Nat.mod_eq_sub_mod (a := 2*p - b.toNat + a.toNat) (by omega), Nat.mod_eq_of_lt (a := 2*p - b.toNat + a.toNat - 2*p) (by omega), Nat.mod_eq_of_lt (by omega)]
        omega
    · rw [Nat.mod_eq_sub_mod (a := 2*p - b.toNat + a.toNat) (by omega), Nat.mod_eq_of_lt (a := 2*p - b.toNat + a.toNat - 2*p) (by omega), Nat.mod_eq_sub_mod (by omega), Nat.mod_eq_of_lt (by omega)]
      omega
  have hp : 2^(w+1) = 2 * 2^w := by rw [Nat.pow_succ']
  have e2 : (wide.setWidth w).toNat = if a.toNat < b.toNat + c.toNat then 2^w + a.toNat - b.toNat - c.toNat else a.toNat - b.toNat - c.toNat := by
    rw [BitVec.toNat_setWidth, e1, hp]
    generalize 2^w = p at *
    split
    · rw [Nat.mod_eq_sub_mod (by omega), Nat.mod_eq_of_lt (by omega)]; omega
    · rw [Nat.mod_eq_of_lt (by omega)]
  refine ⟨?_, ?_, ?_, e2⟩
  · rw [BitVec.msb_eq_decide, e1]
    simp only [Nat.add_sub_cancel]
    rw [hp]
    generalize 2^w = p at *
    rw [decide_eq_decide]
    split <;> omega
  · apply BitVec.eq_of_toNat_eq
    rw [e2, BitVec.toNat_ofInt]
    generalize hq : 2^w = p at *
    split
    · rw [← Int.add_emod_right, Int.emod_eq_of_lt (by omega) (by omega)]; omega
    · rw [Int.emod_eq_of_lt (by omega) (by omega)]; omega
  · apply BitVec.eq_of_toNat_eq
    have : (BitVec.setWidth w (BitVec.ofBool c)).toNat = c.toNat := by
      cases c <;> simp [Nat.mod_eq_of_lt (show 1 < 2^w by omega)]
    rw [BitVec.toNat_add, BitVec.toNat_add, this, e2]
    generalize 2^w = p at *
    split
    · by_cases h' : p + a.toNat - b.toNat - c.toNat + b.toNat < p
      · rw [Nat.mod_eq_of_lt h', Nat.mod_eq_sub_mod (by omega), Nat.mod_eq_of_lt (by omega)]; omega
      · rw [Nat.mod_eq_sub_mod (a := p + a.toNat - b.toNat - c.toNat + b.toNat)  (by omega), Nat.mod_eq_of_lt (a := p + a.toNat - b.toNat - c.toNat + b.toNat - p) (by omega), Nat.mod_eq_of_lt (by omega)]; omega
    · rw [Nat.mod_eq_of_lt (a := a.toNat - b.toNat - c.toNat + b.toNat) (by omega), Nat.mod_eq_of_lt (by omega)]; omega

/-- R162: the sign test is signed overflow of the difference. -/
theorem sub_overflow (hw : 4 < w) (a b : BitVec w) (c : Bool) (r : BitVec w)
  (hr : r.toNat = if a.toNat < b.toNat + c.toNat then 2^w + a.toNat - b.toNat - c.toNat else a.toNat - b.toNat - c.toNat) :
  ((a.msb != b.msb) && (r.msb != a.msb)) = outsideSigned w (a.toInt - b.toInt - c.toNat) := by
  have h1 : 2^w = 2 * 2^(w-1) := by
    rw [← Nat.pow_succ']; congr 1; omega
  have ha := a.isLt
  have hb := b.isLt
  have hc : c.toNat ≤ 1 := by cases c <;> simp
  unfold outsideSigned
  rw [BitVec.toInt_eq_toNat_cond, BitVec.toInt_eq_toNat_cond]
  rw [BitVec.msb_eq_decide, BitVec.msb_eq_decide, BitVec.msb_eq_decide]
  push_cast
  generalize a.toNat = a at *
  generalize b.toNat = b at *
  generalize c.toNat = c at *
  generalize r.toNat = r at *
  have hp : (2:Int)^(w-1) = ((2^(w-1) : Nat) : Int) := by push_cast; rfl
  have hq : (2:Int)^w = ((2^w : Nat) : Int) := by push_cast; rfl
  rw [hp, hq, h1]
  rw [h1] at hr ha hb
  generalize 2^(w-1) = p at *
  rw [Bool.eq_iff_iff]
  simp
  split at hr <;> split <;> split <;> by_cases h5 : p ≤ a <;> by_cases h6 : p ≤ b <;> by_cases h7 : p ≤ r <;> simp [h5, h6, h7] <;> omega

end Sys2Proof.Machine
end

