-- ==== Sys2Proof/Laws/Forms.lean ====
section
/-! SUPPORT. The instructions named by family and selector, each as the shared operation it is, and what the
shared operations leave when their operand can be read. -/

namespace Sys2Proof

open Sys2Proof.Machine

/-! ### Two-operand instructions -/

theorem AluOp.exec_rm8R8 (op : AluOp) (rm : RM8) (r : Reg8) (s : State) :
    exec (op.rm8R8 rm r) s = finish (aluRm8 op rm (s.reg8 r) s) := by cases op <;> rfl

theorem AluOp.exec_rm16R16 (op : AluOp) (rm : RM16) (r : Reg16) (s : State) :
    exec (op.rm16R16 rm r) s = finish (aluRm16 op rm (s.reg16 r) s) := by cases op <;> rfl

theorem AluOp.exec_r8Rm8 (op : AluOp) (rm : RM8) (r : Reg8) (s : State) :
    exec (op.r8Rm8 rm r) s = finish (aluReg8FromRm op r rm s) := by cases op <;> rfl

theorem AluOp.exec_r16Rm16 (op : AluOp) (rm : RM16) (r : Reg16) (s : State) :
    exec (op.r16Rm16 rm r) s = finish (aluReg16FromRm op r rm s) := by cases op <;> rfl

theorem AluOp.exec_alImm8 (op : AluOp) (imm : Byte) (s : State) :
    exec (op.alImm8 imm) s = finish (aluReg8 op .al imm s) := by cases op <;> rfl

theorem AluOp.exec_axImm16 (op : AluOp) (imm : Word) (s : State) :
    exec (op.axImm16 imm) s = finish (aluReg16 op .ax imm s) := by cases op <;> rfl

theorem AluOp.exec_rm8Imm8 (op : AluOp) (rm : RM8) (imm : Byte) (s : State) :
    exec (op.rm8Imm8 rm imm) s = finish (aluRm8 op rm imm s) := by cases op <;> rfl

theorem AluOp.exec_rm16Imm16 (op : AluOp) (rm : RM16) (imm : Word) (s : State) :
    exec (op.rm16Imm16 rm imm) s = finish (aluRm16 op rm imm s) := by cases op <;> rfl

theorem AluOp.exec_rm16Simm8 (op : AluOp) (rm : RM16) (imm : Byte) (s : State) :
    exec (op.rm16Simm8 rm imm) s = finish (aluRm16 op rm (signExtendByte imm) s) := by cases op <;> rfl

/-! ### INC and DEC -/

theorem Reg16.exec_inc (r : Reg16) (s : State) : exec r.inc s = finish (incDecReg16 .inc r s) := by
  cases r <;> rfl

theorem Reg16.exec_dec (r : Reg16) (s : State) : exec r.dec s = finish (incDecReg16 .dec r s) := by
  cases r <;> rfl

/-! ### Shifts and rotates -/

theorem ShiftOp.exec_rm8One (op : ShiftOp) (rm : RM8) (s : State) :
    exec (op.rm8One rm) s = finish (shiftRm8 op rm 1 s) := by cases op <;> rfl

theorem ShiftOp.exec_rm16One (op : ShiftOp) (rm : RM16) (s : State) :
    exec (op.rm16One rm) s = finish (shiftRm16 op rm 1 s) := by cases op <;> rfl

theorem ShiftOp.exec_rm8Cl (op : ShiftOp) (rm : RM8) (s : State) :
    exec (op.rm8Cl rm) s = finish (shiftRm8 op rm (s.reg8 .cl) s) := by cases op <;> rfl

theorem ShiftOp.exec_rm16Cl (op : ShiftOp) (rm : RM16) (s : State) :
    exec (op.rm16Cl rm) s = finish (shiftRm16 op rm (s.reg8 .cl) s) := by cases op <;> rfl

theorem ShiftOp.exec_rm8Cnt (op : ShiftOp) (rm : RM8) (count : Byte) (s : State) :
    exec (op.rm8Cnt rm count) s = finish (shiftRm8 op rm count s) := by cases op <;> rfl

theorem ShiftOp.exec_rm16Cnt (op : ShiftOp) (rm : RM16) (count : Byte) (s : State) :
    exec (op.rm16Cnt rm count) s = finish (shiftRm16 op rm count s) := by cases op <;> rfl

/-! ### MOV, PUSH, POP and the conditional branches -/

theorem Reg8.exec_movImm (r : Reg8) (imm : Byte) (s : State) :
    exec (r.movImm imm) s = .next (s.setReg8 r imm) := by cases r <;> rfl

theorem Reg16.exec_movImm (r : Reg16) (imm : Word) (s : State) :
    exec (r.movImm imm) s = .next (s.setReg16 r imm) := by cases r <;> rfl

theorem SReg.exec_movTo (r : SReg) (rm : RM16) (s : State) :
    exec (r.movTo rm) s = finish (moveToRm16 rm (s.sreg r) s) := by cases r <;> rfl

theorem Reg16.exec_push (r : Reg16) (s : State) : exec r.push s = finish (s.push16 (s.pushedReg r)) := by
  cases r <;> rfl

theorem Reg16.exec_pop (r : Reg16) (s : State) : exec r.pop s = finish (popReg16 r s) := by
  cases r <;> rfl

theorem SReg.exec_push (r : SReg) (s : State) : exec r.push s = finish (s.push16 (s.sreg r)) := by
  cases r <;> rfl

theorem Cond.exec_jump (c : Cond) (rel : Byte) (s : State) :
    exec (c.jump rel) s = finish (jumpIf c rel s) := by cases c <;> rfl

end Sys2Proof

namespace Sys2Proof.Machine

/-! ### Operands that can be read

The canonical form of MEM is the only assumption about the state. -/

/-- R166: what `OP r/m8, source` leaves. -/
theorem aluRm8_of_read {op : AluOp} {rm : RM8} {left : Byte} {s : State} (right : Byte)
    (h : s.readRM8 rm = .ok left) (hw : s.mem.wf = true) :
    ∃ t, aluRm8 op rm right s = .ok t ∧ op.Leaves8 (s.locate rm) left right s t := by
  unfold aluRm8
  rw [h]
  by_cases hop : op.writes = true
  · obtain ⟨t, h1, h2⟩ := State.writeLoc8_of_read (s' := s.withFlags (op.compute left right s.flags).2)
      (op.compute left right s.flags).1 h rfl rfl hw
    exact ⟨t, by simp [Except.bind, hop, h1],
      ⟨by rw [State.writeLoc8_flags h1]; rfl, by simp [hop, h2]⟩⟩
  · refine ⟨_, by simp only [Except.bind, hop]; rfl, ⟨rfl, ?_⟩⟩
    rw [if_neg hop, ← h]
    unfold State.readRM8
    cases s.locate rm <;> rfl

/-- R166: what `OP r/m16, source` leaves. -/
theorem aluRm16_of_read {op : AluOp} {rm : RM16} {left : Word} {s : State} (right : Word)
    (h : s.readRM16 rm = .ok left) (hw : s.mem.wf = true) :
    ∃ t, aluRm16 op rm right s = .ok t ∧ op.Leaves16 (s.locate rm) left right s t := by
  unfold aluRm16
  rw [h]
  by_cases hop : op.writes = true
  · obtain ⟨t, h1, h2⟩ := State.writeLoc16_of_read (s' := s.withFlags (op.compute left right s.flags).2)
      (op.compute left right s.flags).1 h rfl rfl hw
    exact ⟨t, by simp [Except.bind, hop, h1],
      ⟨by rw [State.writeLoc16_flags h1]; rfl, by simp [hop, h2]⟩⟩
  · refine ⟨_, by simp only [Except.bind, hop]; rfl, ⟨rfl, ?_⟩⟩
    rw [if_neg hop, ← h]
    unfold State.readRM16
    cases s.locate rm <;> rfl

/-- R178, R179: what INC and DEC of an r/m8 operand leave. -/
theorem incDecRm8_of_read {op : IncDec} {rm : RM8} {v : Byte} {s : State} (h : s.readRM8 rm = .ok v)
    (hw : s.mem.wf = true) :
    ∃ t, incDecRm8 op rm s = .ok t ∧ t.readLoc8 (s.locate rm) = .ok (op.compute v s.flags).1 ∧
      t.flags = (op.compute v s.flags).2 := by
  unfold incDecRm8
  rw [h]
  obtain ⟨t, h1, h2⟩ := State.writeLoc8_of_read (s' := s.withFlags (op.compute v s.flags).2)
    (op.compute v s.flags).1 h rfl rfl hw
  exact ⟨t, h1, h2, State.writeLoc8_flags h1⟩

/-- R178, R179: what INC and DEC of an r/m16 operand leave. -/
theorem incDecRm16_of_read {op : IncDec} {rm : RM16} {v : Word} {s : State} (h : s.readRM16 rm = .ok v)
    (hw : s.mem.wf = true) :
    ∃ t, incDecRm16 op rm s = .ok t ∧ t.readLoc16 (s.locate rm) = .ok (op.compute v s.flags).1 ∧
      t.flags = (op.compute v s.flags).2 := by
  unfold incDecRm16
  rw [h]
  obtain ⟨t, h1, h2⟩ := State.writeLoc16_of_read (s' := s.withFlags (op.compute v s.flags).2)
    (op.compute v s.flags).1 h rfl rfl hw
  exact ⟨t, h1, h2, State.writeLoc16_flags h1⟩

/-- R226: what a shift or rotate of an r/m8 operand leaves. -/
theorem shiftRm8_of_read {op : ShiftOp} {rm : RM8} {count v : Byte} {s : State}
    (hc : maskedCount count ≠ 0) (h : s.readRM8 rm = .ok v) (hw : s.mem.wf = true) :
    ∃ t, shiftRm8 op rm count s = .ok t ∧
      t.readLoc8 (s.locate rm) = .ok (op.compute v count s.flags).1 ∧
      t.flags = (op.compute v count s.flags).2 := by
  unfold shiftRm8
  rw [if_neg hc, h]
  obtain ⟨t, h1, h2⟩ := State.writeLoc8_of_read (s' := s.withFlags (op.compute v count s.flags).2)
    (op.compute v count s.flags).1 h rfl rfl hw
  exact ⟨t, h1, h2, State.writeLoc8_flags h1⟩

/-- R226: what a shift or rotate of an r/m16 operand leaves. -/
theorem shiftRm16_of_read {op : ShiftOp} {rm : RM16} {count : Byte} {v : Word} {s : State}
    (hc : maskedCount count ≠ 0) (h : s.readRM16 rm = .ok v) (hw : s.mem.wf = true) :
    ∃ t, shiftRm16 op rm count s = .ok t ∧
      t.readLoc16 (s.locate rm) = .ok (op.compute v count s.flags).1 ∧
      t.flags = (op.compute v count s.flags).2 := by
  unfold shiftRm16
  rw [if_neg hc, h]
  obtain ⟨t, h1, h2⟩ := State.writeLoc16_of_read (s' := s.withFlags (op.compute v count s.flags).2)
    (op.compute v count s.flags).1 h rfl rfl hw
  exact ⟨t, h1, h2, State.writeLoc16_flags h1⟩

/-! ### Operands that cannot be read -/

section

variable {s : State} {f : Fault}

theorem aluRm8_of_error {op : AluOp} {rm : RM8} {v : Byte} (h : s.readRM8 rm = .error f) :
    aluRm8 op rm v s = .error f := by
  simp [aluRm8, h, Except.bind]

theorem aluReg8FromRm_of_error {op : AluOp} {r : Reg8} {rm : RM8} (h : s.readRM8 rm = .error f) :
    aluReg8FromRm op r rm s = .error f := by
  simp [aluReg8FromRm, h, Except.bind]

theorem incDecRm8_of_error {op : IncDec} {rm : RM8} (h : s.readRM8 rm = .error f) :
    incDecRm8 op rm s = .error f := by
  simp [incDecRm8, h, Except.bind]

theorem shiftRm8_of_error {op : ShiftOp} {rm : RM8} {count : Byte} (h : s.readRM8 rm = .error f) (hc : maskedCount count ≠ 0) :
    shiftRm8 op rm count s = .error f := by
  simp [shiftRm8, hc, h, Except.bind]

theorem moveToRm8_of_error {rm : RM8} {v : Byte} (h : s.readRM8 rm = .error f) :
    moveToRm8 rm v s = .error f := State.writeLoc8_error_of_read v h rfl

theorem moveToReg8_of_error {r : Reg8} {rm : RM8} (h : s.readRM8 rm = .error f) :
    moveToReg8 r rm s = .error f := by
  simp [moveToReg8, h, Except.map]

theorem aluRm16_of_error {op : AluOp} {rm : RM16} {v : Word} (h : s.readRM16 rm = .error f) :
    aluRm16 op rm v s = .error f := by
  simp [aluRm16, h, Except.bind]

theorem aluReg16FromRm_of_error {op : AluOp} {r : Reg16} {rm : RM16} (h : s.readRM16 rm = .error f) :
    aluReg16FromRm op r rm s = .error f := by
  simp [aluReg16FromRm, h, Except.bind]

theorem incDecRm16_of_error {op : IncDec} {rm : RM16} (h : s.readRM16 rm = .error f) :
    incDecRm16 op rm s = .error f := by
  simp [incDecRm16, h, Except.bind]

theorem shiftRm16_of_error {op : ShiftOp} {rm : RM16} {count : Byte} (h : s.readRM16 rm = .error f) (hc : maskedCount count ≠ 0) :
    shiftRm16 op rm count s = .error f := by
  simp [shiftRm16, hc, h, Except.bind]

theorem moveToRm16_of_error {rm : RM16} {v : Word} (h : s.readRM16 rm = .error f) :
    moveToRm16 rm v s = .error f := State.writeLoc16_error_of_read v h rfl

theorem moveToReg16_of_error {r : Reg16} {rm : RM16} (h : s.readRM16 rm = .error f) :
    moveToReg16 r rm s = .error f := by
  simp [moveToReg16, h, Except.map]

theorem moveToSreg_of_error {r : SReg} {rm : RM16} (h : s.readRM16 rm = .error f) :
    moveToSreg r rm s = .error f := by
  simp [moveToSreg, h, Except.map]

theorem pushRm_of_error {rm : RM16} (h : s.readRM16 rm = .error f) : pushRm rm s = .error f := by
  cases rm with
  | reg r => cases h
  | mem m => simp [pushRm, h, Except.bind]

end

/-- An unrecognized instruction does the unrecognized-opcode rule with its first byte and its length. -/
theorem exec_unrecognized {i : Instr} (h : i.family = .unrecognized) (s : State) :
    ∃ op bytes, encode i = op :: bytes ∧
      exec i s = .next (raiseUnsupported op (encode i).length s) := by
  cases i <;> simp only [Instr.family, reduceCtorEq] at h
  all_goals exact ⟨_, _, rfl, rfl⟩

end Sys2Proof.Machine
end

