-- ==== Sys2Proof/Laws/Frame.lean ====
section
/-! SUPPORT. Footprints, update by update: an update inside a footprint keeps everything outside it. -/

namespace Sys2Proof.Machine.Footprint.Covers

open Sys2Proof.Machine

variable {fp : Footprint} {s t : State}

protected theorem refl (fp : Footprint) (s : State) : fp.Covers s s :=
  ⟨fun _ _ _ => rfl, fun _ _ _ => rfl, fun _ _ => rfl, fun _ _ => rfl, fun _ _ => rfl, fun _ => rfl,
    fun _ => rfl, fun _ => rfl, fun _ => rfl, fun _ => rfl, rfl⟩

/-- R21: a byte register that is listed. -/
theorem setReg8 (h : fp.Covers s t) {r : Reg8} (hr : r ∈ fp.bytes) (v : Byte) :
    fp.Covers s (t.setReg8 r v) where
  reg8 q hq hw := by
    rw [State.reg8_setReg8, if_neg (show ¬ q = r from fun e => hq (e ▸ hr))]
    exact h.reg8 q hq hw
  reg16 q hq hb := by
    rw [State.reg16_setReg8, if_neg (fun e => hb r hr e.symm)]
    exact h.reg16 q hq hb
  sreg q hq := by rw [State.sreg_setReg8]; exact h.sreg q hq
  flagBits := by rw [show (t.setReg8 r v).flags = t.flags by simp]; exact h.flagBits
  mem := by rw [show (t.setReg8 r v).mem = t.mem by simp]; exact h.mem
  delay := by rw [show (t.setReg8 r v).intDelay = t.intDelay by simp]; exact h.delay
  status := by rw [show (t.setReg8 r v).status = t.status by simp]; exact h.status
  conout := by rw [show (t.setReg8 r v).conout = t.conout by simp]; exact h.conout
  diag := by rw [show (t.setReg8 r v).diag = t.diag by simp]; exact h.diag
  draws := by rw [show (t.setReg8 r v).draws = t.draws by simp]; exact h.draws
  cfg := by rw [show (t.setReg8 r v).cfg = t.cfg by simp]; exact h.cfg

/-- R24: a word register that is listed, or whose written halves are. -/
theorem setReg16 (h : fp.Covers s t) {r : Reg16} (hr : r ∈ fp.words) (v : Word) :
    fp.Covers s (t.setReg16 r v) where
  reg8 q hq hw := by
    rw [State.reg8_setReg16, if_neg (show ¬ q.parent = r from fun e => hw (e ▸ hr))]
    exact h.reg8 q hq hw
  reg16 q hq hb := by
    rw [State.reg16_setReg16, if_neg (show ¬ q = r from fun e => hq (e ▸ hr))]
    exact h.reg16 q hq hb
  sreg q hq := by rw [State.sreg_setReg16]; exact h.sreg q hq
  flagBits := by rw [show (t.setReg16 r v).flags = t.flags by simp]; exact h.flagBits
  mem := by rw [show (t.setReg16 r v).mem = t.mem by simp]; exact h.mem
  delay := by rw [show (t.setReg16 r v).intDelay = t.intDelay by simp]; exact h.delay
  status := by rw [show (t.setReg16 r v).status = t.status by simp]; exact h.status
  conout := by rw [show (t.setReg16 r v).conout = t.conout by simp]; exact h.conout
  diag := by rw [show (t.setReg16 r v).diag = t.diag by simp]; exact h.diag
  draws := by rw [show (t.setReg16 r v).draws = t.draws by simp]; exact h.draws
  cfg := by rw [show (t.setReg16 r v).cfg = t.cfg by simp]; exact h.cfg

/-- R26: a segment register that is listed; a write of SS also sets INTDELAY. -/
theorem setSreg (h : fp.Covers s t) {r : SReg} (hr : r ∈ fp.sregs) (hd : r = .ss → fp.delay = true)
    (v : Word) : fp.Covers s (t.setSreg r v) where
  reg8 q hq hw := by rw [State.reg8_setSreg]; exact h.reg8 q hq hw
  reg16 q hq hb := by rw [State.reg16_setSreg]; exact h.reg16 q hq hb
  sreg q hq := by
    rw [State.sreg_setSreg, if_neg (show ¬ q = r from fun e => hq (e ▸ hr))]
    exact h.sreg q hq
  flagBits := by rw [show (t.setSreg r v).flags = t.flags by cases r <;> rfl]; exact h.flagBits
  mem := by rw [show (t.setSreg r v).mem = t.mem by cases r <;> rfl]; exact h.mem
  delay hf := by
    rw [State.setSreg_intDelay, if_neg]
    · exact h.delay hf
    · intro e
      rw [hd e] at hf
      cases hf
  status := by rw [show (t.setSreg r v).status = t.status by cases r <;> rfl]; exact h.status
  conout := by rw [show (t.setSreg r v).conout = t.conout by cases r <;> rfl]; exact h.conout
  diag := by rw [show (t.setSreg r v).diag = t.diag by cases r <;> rfl]; exact h.diag
  draws := by rw [show (t.setSreg r v).draws = t.draws by cases r <;> rfl]; exact h.draws
  cfg := by rw [show (t.setSreg r v).cfg = t.cfg by cases r <;> rfl]; exact h.cfg

/-- A flags word that differs in listed flags only. -/
theorem withFlags (h : fp.Covers s t) {fl : Word}
    (hf : ∀ k, k ∉ fp.flags.map Flag.bit → fl.getLsbD k = t.flags.getLsbD k) :
    fp.Covers s (t.withFlags fl) :=
  ⟨h.reg8, h.reg16, h.sreg, fun k hk => (hf k hk).trans (h.flagBits k hk), h.mem, h.delay, h.status,
    h.conout, h.diag, h.draws, h.cfg⟩

/-- Every instruction may change IP. -/
theorem withIp (h : fp.Covers s t) (v : Word) : fp.Covers s (t.withIp v) :=
  ⟨h.reg8, h.reg16, h.sreg, h.flagBits, h.mem, h.delay, h.status, h.conout, h.diag, h.draws, h.cfg⟩

/-- A store that differs in listed bytes only. -/
theorem withMem (h : fp.Covers s t) {m : Memory}
    (hm : ∀ a, a ∉ fp.cells → m.read a = t.mem.read a) : fp.Covers s (t.withMem m) :=
  ⟨h.reg8, h.reg16, h.sreg, h.flagBits, fun a ha => (hm a ha).trans (h.mem a ha), h.delay, h.status,
    h.conout, h.diag, h.draws, h.cfg⟩

theorem withStatus (h : fp.Covers s t) (hs : fp.status = true) (st : Status) :
    fp.Covers s (t.withStatus st) :=
  ⟨h.reg8, h.reg16, h.sreg, h.flagBits, h.mem, h.delay, fun e => Bool.noConfusion (hs.symm.trans e), h.conout,
    h.diag, h.draws, h.cfg⟩

theorem emitDiag (h : fp.Covers s t) (hd : fp.diag = true) (e : DiagEvent) :
    fp.Covers s (t.emitDiag e) :=
  ⟨h.reg8, h.reg16, h.sreg, h.flagBits, h.mem, h.delay, h.status, h.conout,
    fun e => Bool.noConfusion (hd.symm.trans e), h.draws, h.cfg⟩

theorem emitConout (h : fp.Covers s t) (hc : fp.conout = true) (bytes : List Byte) :
    fp.Covers s (t.emitConout bytes) :=
  ⟨h.reg8, h.reg16, h.sreg, h.flagBits, h.mem, h.delay, h.status, fun e => Bool.noConfusion (hc.symm.trans e),
    h.diag, h.draws, h.cfg⟩

theorem drew (h : fp.Covers s t) (hd : fp.draws = true) (n : Nat) : fp.Covers s (t.drew n) :=
  ⟨h.reg8, h.reg16, h.sreg, h.flagBits, h.mem, h.delay, h.status, h.conout, h.diag,
    fun e => Bool.noConfusion (hd.symm.trans e), h.cfg⟩

/-- R65, n = 1: a byte stored at a listed address. -/
theorem memWrite8 (h : fp.Covers s t) {u : State} {seg off : Word} {v : Byte}
    (hw : t.memWrite8 seg off v = .ok u) (hc : s.phys seg off ∈ fp.cells) : fp.Covers s u := by
  obtain ⟨-, rfl⟩ := State.memWrite8_eq_ok.mp hw
  rw [State.phys_congr h.cfg]
  exact h.withMem fun a ha => Memory.read_write_other fun e => ha (e ▸ hc)

/-- R65, n = 2: a word stored at two listed addresses. -/
theorem memWrite16 (h : fp.Covers s t) {u : State} {seg off v : Word}
    (hw : t.memWrite16 seg off v = .ok u) (hc : s.phys seg off ∈ fp.cells)
    (hc' : s.phys seg (off + 1) ∈ fp.cells) : fp.Covers s u := by
  obtain ⟨-, -, rfl⟩ := State.memWrite16_eq_ok.mp hw
  simp only [State.phys_congr h.cfg]
  refine h.withMem fun a ha => ?_
  have h1 : a ≠ s.phys seg off := fun e => ha (e ▸ hc)
  have h2 : a ≠ s.phys seg (off + 1) := fun e => ha (e ▸ hc')
  rw [Memory.read_write_other h2, Memory.read_write_other h1]

/-- R104: a write of an r/m8 operand that is listed. -/
theorem writeLoc8 (h : fp.Covers s t) {u : State} {loc : Loc Reg8} {v : Byte}
    (hw : t.writeLoc8 loc v = .ok u) (h1 : ∀ r, loc = .reg r → r ∈ fp.bytes)
    (h2 : ∀ a, a ∈ loc.cells8 s → a ∈ fp.cells) : fp.Covers s u := by
  cases loc with
  | reg r => cases hw; exact h.setReg8 (h1 r rfl) _
  | mem seg off => exact h.memWrite8 hw (h2 _ (by simp [Loc.cells8]))

/-- R104: a write of an r/m16 operand that is listed. -/
theorem writeLoc16 (h : fp.Covers s t) {u : State} {loc : Loc Reg16} {v : Word}
    (hw : t.writeLoc16 loc v = .ok u) (h1 : ∀ r, loc = .reg r → r ∈ fp.words)
    (h2 : ∀ a, a ∈ loc.cells16 s → a ∈ fp.cells) : fp.Covers s u := by
  cases loc with
  | reg r => cases hw; exact h.setReg16 (h1 r rfl) _
  | mem seg off => exact h.memWrite16 hw (h2 _ (by simp [Loc.cells16])) (h2 _ (by simp [Loc.cells16]))

end Sys2Proof.Machine.Footprint.Covers
end

