-- ==== Sys2Proof/Laws/Keeps.lean ====
section
/-! SUPPORT. What every shared operation keeps: the canonical form of MEM, the parameters, the bits of FLAGS
outside the six arithmetic flags, the bound of INTDELAY, and what the output streams already hold. -/

namespace Sys2Proof.Machine

/-- What no instruction breaks, between the state before and the state after. -/
structure Keeps (s t : State) : Prop where
  wf : s.mem.wf = true → t.mem.wf = true
  cfg : t.cfg = s.cfg
  flags : ∀ k, k ∉ [0, 2, 4, 6, 7, 11] → t.flags.getLsbD k = s.flags.getLsbD k
  delay : s.intDelay ≤ intDelaySet → t.intDelay ≤ intDelaySet
  conout : s.conout <+: t.conout
  diag : s.diag <+: t.diag
  draws : s.draws ≤ t.draws

namespace Keeps

variable {s t : State}

protected theorem refl (s : State) : Keeps s s :=
  ⟨id, rfl, fun _ _ => rfl, id, List.prefix_refl _, List.prefix_refl _, Nat.le_refl _⟩

protected theorem trans {u : State} (h : Keeps s t) (k : Keeps t u) : Keeps s u :=
  ⟨k.wf ∘ h.wf, k.cfg.trans h.cfg, fun j hj => (k.flags j hj).trans (h.flags j hj),
    k.delay ∘ h.delay, h.conout.trans k.conout, h.diag.trans k.diag, h.draws.trans k.draws⟩

/-! ### The updates -/

theorem setReg16 (h : Keeps s t) (r : Reg16) (v : Word) : Keeps s (t.setReg16 r v) := by
  cases r <;> exact ⟨h.wf, h.cfg, h.flags, h.delay, h.conout, h.diag, h.draws⟩

theorem setReg8 (h : Keeps s t) (r : Reg8) (v : Byte) : Keeps s (t.setReg8 r v) := by
  cases r <;> exact ⟨h.wf, h.cfg, h.flags, h.delay, h.conout, h.diag, h.draws⟩

theorem setSreg (h : Keeps s t) (r : SReg) (v : Word) : Keeps s (t.setSreg r v) := by
  cases r
  case ss => exact ⟨h.wf, h.cfg, h.flags, fun _ => Nat.le_refl _, h.conout, h.diag, h.draws⟩
  all_goals exact ⟨h.wf, h.cfg, h.flags, h.delay, h.conout, h.diag, h.draws⟩

theorem withFlags (h : Keeps s t) {fl : Word}
    (hf : ∀ k, k ∉ [0, 2, 4, 6, 7, 11] → fl.getLsbD k = t.flags.getLsbD k) :
    Keeps s (t.withFlags fl) :=
  ⟨h.wf, h.cfg, fun k hk => (hf k hk).trans (h.flags k hk), h.delay, h.conout, h.diag, h.draws⟩

theorem withIp (h : Keeps s t) (v : Word) : Keeps s (t.withIp v) :=
  ⟨h.wf, h.cfg, h.flags, h.delay, h.conout, h.diag, h.draws⟩

theorem withStatus (h : Keeps s t) (st : Status) : Keeps s (t.withStatus st) :=
  ⟨h.wf, h.cfg, h.flags, h.delay, h.conout, h.diag, h.draws⟩

theorem emitDiag (h : Keeps s t) (e : DiagEvent) : Keeps s (t.emitDiag e) :=
  ⟨h.wf, h.cfg, h.flags, h.delay, h.conout, h.diag.trans (List.prefix_append _ _), h.draws⟩

theorem emitConout (h : Keeps s t) (bytes : List Byte) : Keeps s (t.emitConout bytes) :=
  ⟨h.wf, h.cfg, h.flags, h.delay, h.conout.trans (List.prefix_append _ _), h.diag, h.draws⟩

theorem drew (h : Keeps s t) (n : Nat) : Keeps s (t.drew n) :=
  ⟨h.wf, h.cfg, h.flags, h.delay, h.conout, h.diag, h.draws.trans (Nat.le_add_right _ _)⟩

theorem memWrite8 (h : Keeps s t) {u : State} {seg off : Word} {v : Byte}
    (hw : t.memWrite8 seg off v = .ok u) : Keeps s u := by
  obtain ⟨hb, rfl⟩ := State.memWrite8_eq_ok.mp hw
  exact ⟨fun hs => Memory.wf_write (h.wf hs) hb, h.cfg, h.flags, h.delay, h.conout, h.diag, h.draws⟩

theorem memWrite16 (h : Keeps s t) {u : State} {seg off v : Word}
    (hw : t.memWrite16 seg off v = .ok u) : Keeps s u := by
  obtain ⟨ho, hb, rfl⟩ := State.memWrite16_eq_ok.mp hw
  exact ⟨fun hs => Memory.wf_write (Memory.wf_write (h.wf hs) (State.phys_lt_of_succ ho hb)) hb,
    h.cfg, h.flags, h.delay, h.conout, h.diag, h.draws⟩

theorem writeLoc8 (h : Keeps s t) {u : State} {loc : Loc Reg8} {v : Byte}
    (hw : t.writeLoc8 loc v = .ok u) : Keeps s u := by
  cases loc with
  | reg r => cases hw; exact h.setReg8 r v
  | mem seg off => exact h.memWrite8 hw

theorem writeLoc16 (h : Keeps s t) {u : State} {loc : Loc Reg16} {v : Word}
    (hw : t.writeLoc16 loc v = .ok u) : Keeps s u := by
  cases loc with
  | reg r => cases hw; exact h.setReg16 r v
  | mem seg off => exact h.memWrite16 hw

theorem push16 (h : Keeps s t) {u : State} {v : Word} (hw : t.push16 v = .ok u) : Keeps s u :=
  (h.setReg16 _ _).memWrite16 hw

theorem pop16 (h : Keeps s t) {r : Word × State} (hw : t.pop16 = .ok r) : Keeps s r.2 := by
  obtain ⟨-, -, rfl⟩ := State.pop16_eq_ok.mp hw
  exact h.setReg16 .sp (t.sp + 2)

theorem raiseUnsupported (h : Keeps s t) (op : Byte) (n : Nat) :
    Keeps s (raiseUnsupported op n t) :=
  (((h.withIp _).emitDiag _).drew _).withStatus _

theorem endInstruction (h : Keeps s t) : Keeps s t.endInstruction :=
  ⟨h.wf, h.cfg, h.flags, fun hs => (Nat.sub_le _ _).trans (h.delay hs), h.conout, h.diag, h.draws⟩

end Keeps

/-! ### The flags the instructions write -/

/-- R160: the flags of a two-operand instruction, on the state. -/
theorem keeps_alu (op : AluOp) {w : Nat} (a b : BitVec w) (s : State) :
    Keeps s (s.withFlags (op.compute a b s.flags).2) :=
  (Keeps.refl s).withFlags fun k hk => op.getLsbD_compute a b s.flags k hk

/-- R178, R179: the flags of INC and DEC, on the state. -/
theorem keeps_incDec (op : IncDec) {w : Nat} (v : BitVec w) (s : State) :
    Keeps s (s.withFlags (op.compute v s.flags).2) :=
  (Keeps.refl s).withFlags fun k hk =>
    op.getLsbD_compute v s.flags k (by simp only [List.mem_cons, not_or] at hk ⊢; exact hk.2)

/-- R224, R225: the flags of a shift or rotate, on the state. -/
theorem keeps_shift (op : ShiftOp) {w : Nat} (v : BitVec w) (n : Byte) (s : State) :
    Keeps s (s.withFlags (op.compute v n s.flags).2) :=
  (Keeps.refl s).withFlags fun k hk => op.getLsbD_compute v n s.flags k hk

/-- R253, R256: the flags of CMPS and SCAS, on the state. -/
theorem keeps_sub {w : Nat} (a b : BitVec w) (s : State) :
    Keeps s (s.withFlags (subFlags a b false s.flags).2) :=
  (Keeps.refl s).withFlags fun k hk => getLsbD_subFlags a b false s.flags k hk

/-- R200, R205, R206: the flags of the BCD instructions, on a state. -/
theorem Keeps.withBcdFlags {s t : State} (h : Keeps s t) (al : Byte) (c a o : Bool) :
    Keeps s (t.withFlags (setSZP al (putCarries t.flags c a o))) :=
  h.withFlags fun k hk => by
    simp only [List.mem_cons, List.not_mem_nil, or_false, not_or] at hk
    simp only [getLsbD_setSZP, getLsbD_putCarries, Flag.bit, hk, if_false]

/-! ### The shared operations -/

theorem aluRm8_keeps {op : AluOp} {rm : RM8} {v : Byte} {s t : State} (h : aluRm8 op rm v s = .ok t) :
    Keeps s t := by
  obtain ⟨left, -, h⟩ := except_bind_eq_ok.mp h
  dsimp only at h
  split at h
  · exact (keeps_alu op left v s).writeLoc8 h
  · cases h; exact keeps_alu op left v s

theorem aluRm16_keeps {op : AluOp} {rm : RM16} {v : Word} {s t : State}
    (h : aluRm16 op rm v s = .ok t) : Keeps s t := by
  obtain ⟨left, -, h⟩ := except_bind_eq_ok.mp h
  dsimp only at h
  split at h
  · exact (keeps_alu op left v s).writeLoc16 h
  · cases h; exact keeps_alu op left v s

theorem aluReg8_keeps {op : AluOp} {r : Reg8} {v : Byte} {s t : State} (h : aluReg8 op r v s = .ok t) :
    Keeps s t := by
  cases h
  split
  · exact (keeps_alu op _ v s).setReg8 _ _
  · exact keeps_alu op _ v s

theorem aluReg16_keeps {op : AluOp} {r : Reg16} {v : Word} {s t : State}
    (h : aluReg16 op r v s = .ok t) : Keeps s t := by
  cases h
  split
  · exact (keeps_alu op _ v s).setReg16 _ _
  · exact keeps_alu op _ v s

theorem aluReg8FromRm_keeps {op : AluOp} {r : Reg8} {rm : RM8} {s t : State}
    (h : aluReg8FromRm op r rm s = .ok t) : Keeps s t := by
  obtain ⟨right, -, h⟩ := except_bind_eq_ok.mp h
  exact aluReg8_keeps h

theorem aluReg16FromRm_keeps {op : AluOp} {r : Reg16} {rm : RM16} {s t : State}
    (h : aluReg16FromRm op r rm s = .ok t) : Keeps s t := by
  obtain ⟨right, -, h⟩ := except_bind_eq_ok.mp h
  exact aluReg16_keeps h

theorem incDecReg16_keeps {op : IncDec} {r : Reg16} {s t : State} (h : incDecReg16 op r s = .ok t) :
    Keeps s t := by
  cases h
  exact (keeps_incDec op _ s).setReg16 _ _

theorem incDecRm8_keeps {op : IncDec} {rm : RM8} {s t : State} (h : incDecRm8 op rm s = .ok t) :
    Keeps s t := by
  obtain ⟨v, -, h⟩ := except_bind_eq_ok.mp h
  exact (keeps_incDec op v s).writeLoc8 h

theorem incDecRm16_keeps {op : IncDec} {rm : RM16} {s t : State} (h : incDecRm16 op rm s = .ok t) :
    Keeps s t := by
  obtain ⟨v, -, h⟩ := except_bind_eq_ok.mp h
  exact (keeps_incDec op v s).writeLoc16 h

theorem moveToReg8_keeps {r : Reg8} {rm : RM8} {s t : State} (h : moveToReg8 r rm s = .ok t) :
    Keeps s t := by
  obtain ⟨v, -, rfl⟩ := except_map_eq_ok.mp h
  exact (Keeps.refl s).setReg8 _ _

theorem moveToReg16_keeps {r : Reg16} {rm : RM16} {s t : State} (h : moveToReg16 r rm s = .ok t) :
    Keeps s t := by
  obtain ⟨v, -, rfl⟩ := except_map_eq_ok.mp h
  exact (Keeps.refl s).setReg16 _ _

theorem moveToSreg_keeps {r : SReg} {rm : RM16} {s t : State} (h : moveToSreg r rm s = .ok t) :
    Keeps s t := by
  obtain ⟨v, -, rfl⟩ := except_map_eq_ok.mp h
  exact (Keeps.refl s).setSreg _ _

theorem loadDirect8_keeps {off : Word} {s t : State} (h : loadDirect8 off s = .ok t) : Keeps s t := by
  obtain ⟨v, -, rfl⟩ := except_map_eq_ok.mp h
  exact (Keeps.refl s).setReg8 _ _

theorem loadDirect16_keeps {off : Word} {s t : State} (h : loadDirect16 off s = .ok t) : Keeps s t := by
  obtain ⟨v, -, rfl⟩ := except_map_eq_ok.mp h
  exact (Keeps.refl s).setReg16 _ _

theorem applyCorrection_keeps (c : Correction) (s : State) : Keeps s (applyCorrection c s) :=
  (((Keeps.refl s).withBcdFlags _ _ _ _).setReg8 _ _).drew _

theorem putBaseResult_keeps {s t : State} (h : Keeps s t) (ah al : Byte) :
    Keeps s (putBaseResult ah al t) :=
  (((h.withBcdFlags _ _ _ _).setReg8 _ _).setReg8 _ _).drew _

theorem logBase_keeps (base : Byte) (s : State) : Keeps s (logBase base s) := by
  unfold logBase
  split
  · exact Keeps.refl s
  · exact (Keeps.refl s).emitDiag _

theorem adjustAfterAddDecimal_keeps {s t : State} (h : adjustAfterAddDecimal s = .ok t) : Keeps s t := by
  cases h
  exact applyCorrection_keeps _ s

theorem adjustAfterSubDecimal_keeps {s t : State} (h : adjustAfterSubDecimal s = .ok t) : Keeps s t := by
  cases h
  exact applyCorrection_keeps _ s

theorem adjustAfterAddAscii_keeps {s t : State} (h : adjustAfterAddAscii s = .ok t) : Keeps s t := by
  cases h
  exact (applyCorrection_keeps _ s).setReg8 _ _

theorem adjustAfterSubAscii_keeps {s t : State} (h : adjustAfterSubAscii s = .ok t) : Keeps s t := by
  cases h
  exact (applyCorrection_keeps _ s).setReg8 _ _

theorem splitByBase_keeps {base : Byte} {s t : State} (h : splitByBase base s = .ok t) : Keeps s t := by
  unfold splitByBase at h
  split at h
  · cases h
  · cases h
    exact putBaseResult_keeps (logBase_keeps base s) _ _

theorem foldByBase_keeps {base : Byte} {s t : State} (h : foldByBase base s = .ok t) : Keeps s t := by
  cases h
  exact putBaseResult_keeps (logBase_keeps base s) _ _

theorem shiftRm8_keeps {op : ShiftOp} {rm : RM8} {n : Byte} {s t : State}
    (h : shiftRm8 op rm n s = .ok t) : Keeps s t := by
  unfold shiftRm8 at h
  split at h
  · cases h; exact Keeps.refl s
  · obtain ⟨v, -, h⟩ := except_bind_eq_ok.mp h
    exact (keeps_shift op v n s).writeLoc8 h

theorem shiftRm16_keeps {op : ShiftOp} {rm : RM16} {n : Byte} {s t : State}
    (h : shiftRm16 op rm n s = .ok t) : Keeps s t := by
  unfold shiftRm16 at h
  split at h
  · cases h; exact Keeps.refl s
  · obtain ⟨v, -, h⟩ := except_bind_eq_ok.mp h
    exact (keeps_shift op v n s).writeLoc16 h

theorem copyElement8_keeps {s t : State} (h : copyElement8 s = .ok t) : Keeps s t := by
  obtain ⟨v, -, h⟩ := except_bind_eq_ok.mp h
  obtain ⟨u, hu, rfl⟩ := except_map_eq_ok.mp h
  exact (((Keeps.refl s).memWrite8 hu).setReg16 _ _).setReg16 _ _

theorem copyElement16_keeps {s t : State} (h : copyElement16 s = .ok t) : Keeps s t := by
  obtain ⟨v, -, h⟩ := except_bind_eq_ok.mp h
  obtain ⟨u, hu, rfl⟩ := except_map_eq_ok.mp h
  exact (((Keeps.refl s).memWrite16 hu).setReg16 _ _).setReg16 _ _

theorem compareElements8_keeps {s t : State} (h : compareElements8 s = .ok t) : Keeps s t := by
  obtain ⟨a, -, h⟩ := except_bind_eq_ok.mp h
  obtain ⟨b, -, rfl⟩ := except_map_eq_ok.mp h
  exact ((keeps_sub a b s).setReg16 _ _).setReg16 _ _

theorem compareElements16_keeps {s t : State} (h : compareElements16 s = .ok t) : Keeps s t := by
  obtain ⟨a, -, h⟩ := except_bind_eq_ok.mp h
  obtain ⟨b, -, rfl⟩ := except_map_eq_ok.mp h
  exact ((keeps_sub a b s).setReg16 _ _).setReg16 _ _

theorem storeElement8_keeps {s t : State} (h : storeElement8 s = .ok t) : Keeps s t := by
  obtain ⟨u, hu, rfl⟩ := except_map_eq_ok.mp h
  exact ((Keeps.refl s).memWrite8 hu).setReg16 _ _

theorem storeElement16_keeps {s t : State} (h : storeElement16 s = .ok t) : Keeps s t := by
  obtain ⟨u, hu, rfl⟩ := except_map_eq_ok.mp h
  exact ((Keeps.refl s).memWrite16 hu).setReg16 _ _

theorem loadElement8_keeps {s t : State} (h : loadElement8 s = .ok t) : Keeps s t := by
  obtain ⟨v, -, rfl⟩ := except_map_eq_ok.mp h
  exact ((Keeps.refl s).setReg8 _ _).setReg16 _ _

theorem loadElement16_keeps {s t : State} (h : loadElement16 s = .ok t) : Keeps s t := by
  obtain ⟨v, -, rfl⟩ := except_map_eq_ok.mp h
  exact ((Keeps.refl s).setReg16 _ _).setReg16 _ _

theorem scanElement8_keeps {s t : State} (h : scanElement8 s = .ok t) : Keeps s t := by
  obtain ⟨b, -, rfl⟩ := except_map_eq_ok.mp h
  exact (keeps_sub _ b s).setReg16 _ _

theorem scanElement16_keeps {s t : State} (h : scanElement16 s = .ok t) : Keeps s t := by
  obtain ⟨b, -, rfl⟩ := except_map_eq_ok.mp h
  exact (keeps_sub _ b s).setReg16 _ _

theorem pushRm_keeps {rm : RM16} {s t : State} (h : pushRm rm s = .ok t) : Keeps s t := by
  cases rm with
  | reg r => exact (Keeps.refl s).push16 h
  | mem m =>
    obtain ⟨v, -, h⟩ := except_bind_eq_ok.mp h
    exact (Keeps.refl s).push16 h

theorem popReg16_keeps {r : Reg16} {s t : State} (h : popReg16 r s = .ok t) : Keeps s t := by
  obtain ⟨x, hx, rfl⟩ := except_map_eq_ok.mp h
  exact ((Keeps.refl s).pop16 hx).setReg16 _ _

theorem popSreg_keeps {r : SReg} {s t : State} (h : popSreg r s = .ok t) : Keeps s t := by
  obtain ⟨x, hx, rfl⟩ := except_map_eq_ok.mp h
  exact ((Keeps.refl s).pop16 hx).setSreg _ _

theorem popRm_keeps {rm : RM16} {s t : State} (h : popRm rm s = .ok t) : Keeps s t := by
  obtain ⟨x, hx, h⟩ := except_bind_eq_ok.mp h
  exact ((Keeps.refl s).pop16 hx).writeLoc16 h

theorem callNearBy_keeps {d : Word} {s t : State} (h : callNearBy d s = .ok t) : Keeps s t := by
  obtain ⟨u, hu, rfl⟩ := except_map_eq_ok.mp h
  exact ((Keeps.refl s).push16 hu).withIp _

theorem callFarTo_keeps {off seg : Word} {s t : State} (h : callFarTo off seg s = .ok t) :
    Keeps s t := by
  obtain ⟨u, hu, h⟩ := except_bind_eq_ok.mp h
  obtain ⟨v, hv, rfl⟩ := except_map_eq_ok.mp h
  exact ((((Keeps.refl s).push16 hu).push16 hv).setSreg _ _).withIp _

theorem returnNear_keeps {n : Word} {s t : State} (h : returnNear n s = .ok t) : Keeps s t := by
  obtain ⟨x, hx, rfl⟩ := except_map_eq_ok.mp h
  exact (((Keeps.refl s).pop16 hx).withIp _).setReg16 _ _

theorem returnFar_keeps {n : Word} {s t : State} (h : returnFar n s = .ok t) : Keeps s t := by
  obtain ⟨x, hx, h⟩ := except_bind_eq_ok.mp h
  obtain ⟨y, hy, rfl⟩ := except_map_eq_ok.mp h
  exact (((((Keeps.refl s).pop16 hx).pop16 hy).setSreg _ _).withIp _).setReg16 _ _

theorem jumpIf_keeps {c : Cond} {rel : Byte} {s t : State} (h : jumpIf c rel s = .ok t) : Keeps s t := by
  cases h
  split
  · exact (Keeps.refl s).withIp _
  · exact Keeps.refl s

theorem jumpIfCxZero_keeps {rel : Byte} {s t : State} (h : jumpIfCxZero rel s = .ok t) : Keeps s t := by
  cases h
  split
  · exact (Keeps.refl s).withIp _
  · exact Keeps.refl s

theorem countDown_keeps (s : State) : Keeps s s.countDown := by
  unfold State.countDown
  split
  · exact (keeps_incDec .dec s.cx s).setReg16 _ _
  · exact ((Keeps.refl s).withFlags fun _ _ => rfl).setReg16 _ _

theorem loopOn_keeps {k : LoopKind} {rel : Byte} {s t : State} (h : loopOn k rel s = .ok t) :
    Keeps s t := by
  cases h
  split
  · exact (countDown_keeps s).withIp _
  · exact countDown_keeps s

theorem printString_keeps {s t : State} (h : printString s = .ok t) : Keeps s t := by
  obtain ⟨⟨out, tooLong⟩, -, rfl⟩ := except_map_eq_ok.mp h
  cases tooLong
  · exact (Keeps.refl s).emitConout _
  · exact ((Keeps.refl s).emitConout _).emitDiag _

theorem bridge_keeps {n : Byte} {s t : State} (h : bridge n s = .ok t) : Keeps s t := by
  unfold bridge dosService at h
  split at h
  · split at h
    · cases h; exact (Keeps.refl s).withStatus _
    · split at h
      · exact printString_keeps h
      · split at h
        · cases h; exact (Keeps.refl s).emitConout _
        · cases h; exact (Keeps.refl s).emitDiag _
  · cases h; exact (Keeps.refl s).emitDiag _

end Sys2Proof.Machine
end

