-- ==== Sys2Proof/Laws/Run.lean ====
section
/-! SUPPORT. The loop of START (spec/70_reset_and_hazards.md R402), step by step, and the packaged induction over
it. -/

namespace Sys2Proof.Machine

@[simp] theorem State.start_zero (s : State) : s.start 0 = .next s := rfl

/-- A run that has ended stays where it ended. -/
theorem State.start_of_ended {s : State} (h : s.status ≠ .running) (n : Nat) : s.start n = .next s := by
  cases n with
  | zero => rfl
  | succ n => unfold State.start; split <;> simp_all

/-- A running machine takes a step first. -/
theorem State.start_of_step {s t : State} (h : s.status = .running) (hs : step s = .next t) (n : Nat) :
    s.start (n + 1) = t.start n := by
  rw [State.start, h, hs]

/-- What one turn of the loop can do when it leads to a state. -/
theorem State.start_succ_eq_next {s u : State} {n : Nat} :
    s.start (n + 1) = .next u ↔
      (s.status ≠ .running ∧ u = s) ∨ (s.status = .running ∧ ∃ t, step s = .next t ∧ t.start n = .next u) := by
  rw [State.start]
  split
  all_goals try (simp_all [eq_comm]; done)
  split <;> simp_all

/-- What every step keeps, the loop keeps. -/
theorem State.start_keeps {P : State → Prop} (hP : ∀ s t, P s → step s = .next t → P t) {n : Nat} {s t : State}
    (hs : P s) (h : s.start n = .next t) : P t := by
  induction n generalizing s with
  | zero => cases h; exact hs
  | succ n ih =>
    obtain ⟨-, rfl⟩ | ⟨-, u, hu, ht⟩ := State.start_succ_eq_next.mp h
    · exact hs
    · exact ih (hP s u hs hu) ht

end Sys2Proof.Machine
end

