-- ==== Sys2Proof/Tests/Slice0.lean ====
section
/-! SUPPORT. Tests of the model: the well-formedness checks, the encodings of spec/30_encoding.md written
out, single steps from spec/95_test_vectors.md, and for each statement with hypotheses a state and operands
that meet them. -/

namespace Sys2Proof.Tests

open Sys2Proof Sys2Proof.Machine

/-! ### Helpers -/

/-- A started machine with a program at 0x100 (spec/95, Conventions). -/
def withCode (code : List Byte) : State :=
  { State.reset with mem := Memory.writeImage [] 0x100 code }

/-- The same with bytes at another address. -/
def State.put (s : State) (a : Nat) (bytes : List Byte) : State :=
  { s with mem := s.mem.writeImage a bytes }

/-- One step leads to a state with a property. -/
def leads (s : State) (p : State → Bool) : Bool :=
  match step s with
  | .next t => p t
  | .fault _ | .refused _ => false

/-- One step faults for a reason. -/
def faults (s : State) (f : Fault) : Bool :=
  match step s with
  | .fault g => g == f
  | .next _ | .refused _ => false

/-- Bytes are decoded to an instruction, with nothing left. -/
def reads (bytes : List Byte) (i : Instr) : Bool :=
  match decode bytes with
  | .ok (j, rest) => j == i && rest == []
  | .error _ => false

/-- The flags CF PF AF ZF SF OF. -/
def sixFlags (fl : Word) : List Bool :=
  [getFlag fl .cf, getFlag fl .pf, getFlag fl .af, getFlag fl .zf, getFlag fl .sf, getFlag fl .of_]

/-! ### Well-formedness: R97 gives `[BP]` alone no encoding -/

theorem test_wf_refuses_bp_alone_byte : (Instr.movR8Rm8 (.mem (.base .bp)) .al).wf = false := by decide

theorem test_wf_refuses_bp_alone_word : (Instr.addRm16Imm16 (.mem (.base .bp)) 1).wf = false := by decide

theorem test_wf_refuses_bp_alone_stack : (Instr.popRm16 (.mem (.base .bp))).wf = false := by decide

theorem test_wf_takes_bp_with_displacement : (Instr.movR8Rm8 (.mem (.disp8 .bp 0)) .al).wf = true := by
  decide

/-! ### Decoding: words written out from R94 to R115 -/

-- 0x81 = 10 000 001: mode 2, reg 0, r/m 1.
theorem test_decode_alu_rm8 : reads [0x00, 0x81, 0x34, 0x12] (.addRm8R8 (.mem (.disp16 .bxDi 0x1234)) .al) = true := by decide

theorem test_decode_alu_group1 : reads [0x81, 0xF8, 0x34, 0x12] (.cmpRm16Imm16 (.reg .ax) 0x1234) = true := by decide

theorem test_decode_alu_group1_simm8 : reads [0x83, 0x5E, 0xFE, 0x80] (.sbbRm16Simm8 (.mem (.disp8 .bp 0xFE)) 0x80) = true := by decide

theorem test_decode_alu_acc : reads [0x35, 0xCD, 0xAB] (.xorAxImm16 0xABCD) = true := by decide

-- 0xC8 = 11 001 000: mode 3, reg 1, r/m 0.
theorem test_decode_incdec : reads [0xFE, 0xC8] (.decRm8 (.reg .al)) = true := by decide

theorem test_decode_inc_opcode_register : reads [0x46] .incSi = true := by decide

theorem test_decode_mov_sreg : reads [0x8C, 0xDB] (.movRm16Ds (.reg .bx)) = true := by decide

theorem test_decode_mov_direction : reads [0x8B, 0x0E, 0x00, 0x80] (.movR16Rm16 (.mem (.direct 0x8000)) .cx) = true := by decide

theorem test_decode_mov_imm : reads [0xBD, 0x01, 0x02] (.movBpImm16 0x0201) = true := by decide

theorem test_decode_bcd : reads [0xD5, 0x0A] (.aad 10) = true := by decide

-- 0x1F = 00 011 111: mode 0, reg 3, r/m 7.
theorem test_decode_shift_count : reads [0xC1, 0x1F, 0x04] (.rcrRm16Cnt (.mem (.base .bx)) 4) = true := by decide

-- 0xF3 = 11 110 011: reg 6.
theorem test_decode_shift_sal : reads [0xD1, 0xF3] (.salRm16One (.reg .bx)) = true := by decide

theorem test_decode_string : reads [0xAF] .scasw = true := by decide

theorem test_decode_stack : reads [0x17] .popSs = true := by decide

theorem test_decode_branch : reads [0x7F, 0x80] (.jg 0x80) = true := by decide

theorem test_decode_jump_far : reads [0xEA, 0x00, 0x02, 0x03, 0x00] (.jmpFar 0x0200 0x0003) = true := by decide

theorem test_decode_call_far : reads [0x9A, 0x34, 0x12, 0x78, 0x56] (.callFar 0x1234 0x5678) = true := by decide

theorem test_decode_ret : reads [0xC2, 0x04, 0x00] (.retPop 4) = true := by decide

theorem test_decode_loop : reads [0xE0, 0xFD] (.loopne 0xFD) = true := by decide

theorem test_decode_system : reads [0xCD, 0x21] (.int 0x21) = true := by decide

theorem test_decode_unrecognized_opcode : reads [0x90] .tierXNop = true := by decide

-- 0x08 = 00 001 000: reg 1 of the group of 8F.
theorem test_decode_unrecognized_selector : reads [0x8F, 0x08] .tierXUndefined8F1 = true := by decide

theorem test_decode_rest_is_kept :
    (decode [0x40, 0xF4]).toOption = some (.incAx, [0xF4]) := by decide

theorem test_decode_truncated : decode [0xC7, 0x06, 0x00] = .error .truncated := by rfl

-- The numbering of spec/opcode_table.json (R127): the first byte in bits 15 to 8 of a two-byte window.
theorem test_table_word_two_bytes : decodeTableWord 16 0x8AC3 = some (.movR8Rm8 (.reg .bl) .al) := by decide

theorem test_table_word_one_byte : decodeTableWord 8 0xF4 = some .hlt := by decide

/-! ### Single steps, from spec/95_test_vectors.md -/

-- 2.2
theorem test_mov_load_keeps_other_half :
    leads (State.put { withCode [0x8A, 0x07] with ax := 0x5500, bx := 0x0200 } 0x200 [0x7E])
      (fun t => t.ax == 0x557E && t.ip == 0x0102) = true := by decide

theorem test_mov_store_is_little_endian :
    leads (withCode [0xC7, 0x06, 0x00, 0x02, 0x34, 0x12])
      (fun t => t.mem.read 0x200 == 0x34 && t.mem.read 0x201 == 0x12 && t.ip == 0x0106) = true := by decide

theorem test_mov_ss_sets_intdelay :
    leads { withCode [0x8E, 0xD0] with ax := 1 } (fun t => t.ss == 1 && t.intDelay == 1) = true := by decide

-- 2.3
theorem test_add_immediate :
    leads { withCode [0x04, 0x27] with ax := 0x0015 }
      (fun t => t.ax == 0x003C && sixFlags t.flags == [false, true, false, false, false, false]) = true := by decide

theorem test_adc_uses_carry :
    leads { withCode [0x14, 0x00] with ax := 0x00FF, flags := 0x0203 }
      (fun t => t.ax == 0 && sixFlags t.flags == [true, true, true, true, false, false]) = true := by decide

theorem test_simm8_is_sign_extended :
    leads { withCode [0x83, 0xC3, 0xFF] with bx := 1 }
      (fun t => t.bx == 0 && sixFlags t.flags == [true, true, true, true, false, false]) = true := by decide

theorem test_cmp_discards_result :
    leads (State.put (withCode [0x80, 0x3E, 0x00, 0x02, 0x24]) 0x200 [0x24])
      (fun t => t.mem.read 0x200 == 0x24 && t.ip == 0x0105 &&
        sixFlags t.flags == [false, true, false, true, false, false]) = true := by decide

theorem test_sbb_borrow_in :
    (AluOp.sbb.compute (0x80 : Byte) 0x7F 0x0203).1 = 0 ∧
      sixFlags (AluOp.sbb.compute (0x80 : Byte) 0x7F 0x0203).2 = [false, true, true, true, false, true] := by
  decide

theorem test_dec_keeps_carry :
    leads { withCode [0x48] with ax := 0x8000, flags := 0x0203 }
      (fun t => t.ax == 0x7FFF && sixFlags t.flags == [true, true, true, false, false, true]) = true := by decide

theorem test_inc_memory_byte :
    leads (State.put (withCode [0xFE, 0x06, 0x00, 0x02]) 0x200 [0x7F])
      (fun t => t.mem.read 0x200 == 0x80 && sixFlags t.flags == [false, false, true, false, true, true]) = true := by
  decide

-- 2.4: the flags word holds a free bit (OF), so CF and AF are tested on the corrections.
theorem test_daa_corrects_both_digits :
    leads { withCode [0x27] with ax := 0x00FF, flags := 0x0213 } (fun t => t.ax == 0x0065) = true := by decide

theorem test_daa_carries :
    (daaCorrection 0x99 false true).cf = false ∧ (daaCorrection 0x99 false true).af = true ∧
      (daaCorrection 0x9A false false).cf = true := by decide

theorem test_das_borrow_of_the_low_digit :
    leads { withCode [0x2F] with ax := 0x0005, flags := 0x0212 } (fun t => t.ax == 0x00FF) = true := by decide

theorem test_das_carries :
    (dasCorrection 0x05 false true).cf = true ∧ (dasCorrection 0x1B false true).cf = false := by decide

theorem test_aaa_is_bytewise :
    leads { withCode [0x37] with ax := 0xFF0A } (fun t => t.ax == 0) = true := by decide

theorem test_aas_borrows_from_ah :
    leads { withCode [0x3F] with ax := 0x0002, flags := 0x0212 } (fun t => t.ax == 0xFF0C) = true := by decide

theorem test_aam_discards_old_ah :
    leads { withCode [0xD4, 0x0A] with ax := 0xAB63 } (fun t => t.ax == 0x0909 && t.diag == []) = true := by decide

theorem test_aam_base_zero : faults { withCode [0xD4, 0x00] with ax := 0x0012 } .divideByZero = true := by decide

theorem test_aad_wraps_and_logs :
    leads { withCode [0xD5, 0x10] with ax := 0x0A07 }
      (fun t => t.ax == 0x00A7 && t.diag == [.unusualBase 16]) = true := by decide

-- 2.5
theorem test_rol_by_one :
    leads { withCode [0xD0, 0xC0] with ax := 0x0081 } (fun t => t.ax == 0x0003 && t.flags == 0x0A03) = true := by
  decide

theorem test_ror_word :
    leads { withCode [0xC1, 0xCB, 0x04] with bx := 0x1234 } (fun t => t.bx == 0x4123 && t.flags == 0x0202) = true := by
  decide

theorem test_shl_count_is_masked :
    leads { withCode [0xC0, 0xE0, 0x21] with ax := 0x0081 } (fun t => t.ax == 0x0002 && t.flags == 0x0203) = true := by
  decide

theorem test_shl_by_its_own_register :
    leads { withCode [0xD2, 0xE1] with cx := 0x0003 } (fun t => t.cx == 0x0018 && t.flags == 0x0206) = true := by
  decide

theorem test_shift_count_zero_reads_nothing :
    leads { withCode [0xD2, 0x27] with cx := 0x0020, ds := 0x0010, flags := 0x0AD7 }
      (fun t => t.flags == 0x0AD7 && t.ip == 0x0102) = true := by decide

theorem test_rcl_full_turn : (ShiftOp.rcl.compute (0x5A : Byte) 9 0x0203).1 = 0x5A := by decide

theorem test_rcr_takes_carry_in : (ShiftOp.rcr.compute (0x80 : Byte) 2 0x0203).1 = 0x60 := by decide

theorem test_shr_overflow : sixFlags (ShiftOp.shr.compute (0x81 : Byte) 1 0x0252).2 =
    [true, false, false, false, false, true] := by decide

theorem test_sar_keeps_sign : (ShiftOp.sar.compute (0x80 : Byte) 31 0x0252).1 = 0xFF := by decide

theorem test_sal_clears_af : sixFlags (ShiftOp.sal.compute (0xC0 : Byte) 1 0x0252).2 =
    [true, false, false, false, true, false] := by decide

-- 2.6
theorem test_movs_wraps_downward :
    leads (State.put { withCode [0xA4] with si := 0xFFFF, flags := 0x0602 } 0xFFFF [0x77])
      (fun t => t.mem.read 0 == 0x77 && t.si == 0xFFFE && t.di == 0xFFFF) = true := by decide

theorem test_cmps_word :
    leads (State.put (State.put { withCode [0xA7] with si := 0x0200, di := 0x0300 } 0x200 [0x41, 0x42])
        0x300 [0x42, 0x41])
      (fun t => t.si == 0x0202 && t.di == 0x0302 &&
        sixFlags t.flags == [false, true, true, false, false, false]) = true := by decide

theorem test_stos_last_byte_of_store :
    leads { withCode [0xAA] with es := 0x000F, di := 0xFFFF, ax := 0x005A }
      (fun t => t.mem.read 0xFFFFF == 0x5A && t.di == 0) = true := by decide

theorem test_lods_word_wrap_faults : faults { withCode [0xAD] with si := 0xFFFF } .segmentWrap = true := by decide

theorem test_scas_byte :
    leads (State.put { withCode [0xAE] with ax := 0x1234, di := 0x0300 } 0x300 [0x42])
      (fun t => t.di == 0x0301 && sixFlags t.flags == [true, false, false, false, true, false]) = true := by decide

-- R67, R62: under REAL8086 the word at physical address 0xFFFFF is its two bytes, the second at address 0.
theorem test_real8086_word_wraps :
    leads (State.put
        { withCode [0xA1, 0x0F, 0x00] with ds := 0xFFFF, cfg := { defaultConfig with addrModel := .real8086 } }
        0xFFFFF [0x77])
      (fun t => t.ax == 0x0077) = true := by decide

-- 2.7
theorem test_push_sp_stores_old :
    leads (withCode [0x54])
      (fun t => t.sp == 0xFFFC && t.mem.read 0xFFFC == 0xFE && t.mem.read 0xFFFD == 0xFF) = true := by decide

theorem test_push_wraps_sp :
    leads { withCode [0x50] with ax := 0xBEEF, sp := 0 }
      (fun t => t.sp == 0xFFFE && t.mem.read 0xFFFE == 0xEF && t.mem.read 0xFFFF == 0xBE) = true := by decide

theorem test_push_at_odd_top_faults : faults { withCode [0x50] with sp := 1 } .segmentWrap = true := by decide

theorem test_pop_sp :
    leads (State.put { withCode [0x5C] with sp := 0xFFFC } 0xFFFC [0x34, 0x12]) (fun t => t.sp == 0x1234) = true := by
  decide

theorem test_pop_ss_sets_intdelay :
    leads (State.put { withCode [0x17] with sp := 0xFFFC } 0xFFFC [1])
      (fun t => t.ss == 1 && t.sp == 0xFFFE && t.intDelay == 1) = true := by decide

-- 2.8
theorem test_jump_to_itself : leads (withCode [0xEB, 0xFE]) (fun t => t.ip == 0x0100) = true := by decide

theorem test_branch_backward :
    leads { withCode [0x74, 0x80] with flags := 0x0242 } (fun t => t.ip == 0x0082) = true := by decide

theorem test_call_far_pushes_segment_first :
    leads { withCode [0x9A, 0x00, 0x02, 0x00, 0x00] with sp := 0xFFFE }
      (fun t => t.sp == 0xFFFA && t.ip == 0x0200 && t.mem.read 0xFFFC == 0 && t.mem.read 0xFFFA == 0x05 &&
        t.mem.read 0xFFFB == 0x01) = true := by decide

theorem test_retf_discards :
    leads (State.put { withCode [0xCA, 0x02, 0x00] with sp := 0xFFF8 } 0xFFF8 [0x05, 0x01, 0x02, 0x00])
      (fun t => t.ip == 0x0105 && t.cs == 0x0002 && t.sp == 0xFFFE) = true := by decide

theorem test_loop_decrements_first :
    leads { withCode [0xE2, 0x02] with cx := 1 } (fun t => t.cx == 0 && t.ip == 0x0102 && t.flags == 0x0202) = true := by
  decide

theorem test_jcxz_keeps_cx : leads (withCode [0xE3, 0x10]) (fun t => t.cx == 0 && t.ip == 0x0112) = true := by
  decide

-- 2.9
theorem test_hlt_terminates : leads (withCode [0xF4]) (fun t => t.exitCode == some 0 && t.ip == 0x0101) = true := by
  decide

-- R34, D31: INTDELAY counts down at the end of every step, also of one that ends the run.
theorem test_hlt_counts_intdelay_down :
    leads { withCode [0xF4] with intDelay := 1 } (fun t => t.intDelay == 0) = true := by decide

theorem test_exit_function :
    leads { withCode [0xCD, 0x21] with ax := 0x4C08 } (fun t => t.status == .terminated 8) = true := by decide

theorem test_string_output_small_bound :
    leads (State.put
        { withCode [0xCD, 0x21] with
          ax := 0x0900, dx := 0x0200, cfg := { defaultConfig with strMax := 2 } } 0x200 [0x48, 0x49, 0x24])
      (fun t => t.conout == [0x48, 0x49] && t.diag == [.stringTooLong]) = true := by decide

theorem test_unrecognized_stops :
    leads (withCode [0xF3, 0xA4])
      (fun t => t.status == .stopped 0xF3 && t.diag == [.unsupportedOpcode 0xF3] && t.di == 0) = true := by
  decide

/-- START, from spec/95 section 3: MOV AL, 5; MOV AH, 4C; INT 21 ends with exit code 5. -/
theorem test_start_runs_to_the_end :
    (match (withCode [0xB0, 0x05, 0xB4, 0x4C, 0xCD, 0x21]).start 10 with
      | .next t => t.outcome == some (.terminated 5)
      | .fault _ | .refused _ => false) = true := by decide

/-- The word the host places is the instruction the next step runs. -/
theorem test_with_fetch_word :
    leads (State.withFetchWord { State.reset with ax := 0x1234 } 16 0x31C0) (fun t => t.ax == 0 && t.ip == 0x0102) = true := by
  decide


/-! ### Witnesses: for each statement with hypotheses, a state and operands that meet them -/

/-- A machine with the other address model (R61). -/
def realMode : State := { State.reset with cfg := { defaultConfig with addrModel := .real8086 } }

/-- A machine whose data, stack and string accesses all leave the store (R62). -/
def outside : State := { State.reset with ds := 0x10, ss := 0x10, es := 0x10 }

theorem witness_DecodeOfEncode :
    (Instr.movRm16Imm16 (.mem (.disp16 .bpDi 0xFFFF)) 0xFFFF).wf = true ∧
      (Instr.movR8Rm8 (.mem (.disp8 .bp 0)) .bh).wf = true ∧ Instr.hlt.wf = true := by decide

theorem witness_EncodeOfDecode :
    decode [0xC7, 0x83, 0xFF, 0xFF, 0xFE, 0xFF, 0x90] =
        .ok (.movRm16Imm16 (.mem (.disp16 .bpDi 0xFFFF)) 0xFFFE, [0x90]) ∧
      (Instr.movRm16Imm16 (.mem (.disp16 .bpDi 0xFFFF)) 0xFFFE).family ≠ .unrecognized := ⟨rfl, by decide⟩

theorem witness_UnrecognizedDecodeKeepsSelector :
    (decode [0xFF, 0xFF, 0x00] = .ok (.tierXUndefinedFF7, [0x00]) ∧
      Instr.tierXUndefinedFF7.family = .unrecognized) ∧
    (decode [0x0F, 0xFF] = .ok (.tierXPopCs, [0xFF]) ∧ Instr.tierXPopCs.family = .unrecognized) :=
  ⟨⟨rfl, rfl⟩, rfl, rfl⟩

theorem witness_SixBytesDecode :
    6 ≤ [0xC7, 0x06, 0x00, 0x02, 0x34, (0x12 : Byte)].length ∧
      decode [0xC7, 0x06, 0x00, 0x02, 0x34, 0x12] =
        .ok (.movRm16Imm16 (.mem (.direct 0x0200)) 0x1234, List.drop 6 [0xC7, 0x06, 0x00, 0x02, 0x34, 0x12]) :=
  ⟨by decide, rfl⟩

theorem witness_AddressFormation :
    phys .banked64k 15 0xFFFF = 1048575 ∧ phys .banked64k 16 0 = 1048576 ∧
      phys .real8086 0xFFFF 0x0010 = 0 := by decide

/-- Where the second byte of a word is, as the statements compute it. -/
def secondByte (s : State) (seg off : Word) : Nat :=
  if s.cfg.addrModel = .real8086 then (s.phys seg off + 1) % 1048576 else s.phys seg off + 1

/-- The last byte and the last word of the store, the first address outside it, the word at 0xFFFF, and under
REAL8086 the word whose second byte wraps to address 0. -/
theorem witness_MemoryReadValuesAndFaults :
    State.reset.phys 15 0xFFFF < 1048576 ∧ 1048576 ≤ State.reset.phys 16 0 ∧
      (0xFFFE : Word) ≠ 0xFFFF ∧ secondByte State.reset 15 0xFFFE = 1048575 ∧
      ((0 : Word) ≠ 0xFFFF ∧ 1048576 ≤ secondByte State.reset 16 0) ∧
      ((0x000F : Word) ≠ 0xFFFF ∧ secondByte realMode 0xFFFF 0x000F = 0) ∧
      State.reset.memRead16 15 0xFFFF = .error .segmentWrap := ⟨by decide, by decide, by decide, by decide,
        by decide, by decide, rfl⟩

theorem witness_MemoryWritesChangeOnlyTheirBytes :
    State.reset.mem.wf = true ∧ State.reset.phys 15 0xFFFF < 1048576 ∧ 1048576 ≤ State.reset.phys 16 0 ∧
      secondByte State.reset 15 0xFFFE < 1048576 ∧ 1048576 ≤ secondByte State.reset 16 0 ∧
      (realMode.mem.wf = true ∧ secondByte realMode 0xFFFF 0x000F < 1048576) ∧
      State.reset.memWrite16 0 0xFFFF 0 = .error .segmentWrap :=
  ⟨by decide, by decide, by decide, by decide, by decide, by decide, rfl⟩

theorem witness_WordAccessIsTwoByteAccesses : (0xFFFE : Word) ≠ 0xFFFF ∧ (0 : Word) ≠ 0xFFFF := by decide

theorem witness_CanonicalMemoriesAreEqual :
    ∃ m n : Memory, m.wf = true ∧ n.wf = true ∧ ∀ a, m.read a = n.read a :=
  ⟨[(5, 1), (1048575, 2)], [(5, 1), (1048575, 2)], by decide, by decide, fun _ => rfl⟩

theorem witness_RegisterHalvesShareStorage : Reg8.ah.parent ≠ .cx ∧ Reg8.bl.parent ≠ .ax := by decide

/-- The premise of the statements over both widths. -/
theorem witness_widths : (8 = 8 ∨ 8 = 16) ∧ (16 = 8 ∨ 16 = 16) := by decide

/-- A byte operand in the last byte of the store, through BP and SS, and a register operand. -/
theorem witness_AluByteForms :
    ∃ s : State, s.inv = true ∧ s.readRM8 (.mem (.disp8 .bp 0xFF)) = .ok 0 ∧ s.readRM8 (.reg .al) = .ok 0x80 :=
  ⟨{ State.reset with ss := 15, ax := 0x80 }, by decide, rfl, rfl⟩

theorem witness_AluWordForms :
    ∃ s : State, s.inv = true ∧ s.readRM16 (.mem (.direct 0xFFFE)) = .ok 0 ∧
      s.readRM16 (.reg .sp) = .ok 0xFFFE :=
  ⟨{ State.reset with ds := 15 }, by decide, rfl, rfl⟩

theorem witness_IncDecForms :
    ∃ s : State, s.inv = true ∧ s.readRM8 (.mem (.direct 0xFFFF)) = .ok 0 ∧
      s.readRM16 (.mem (.direct 0xFFFE)) = .ok 0 := ⟨State.reset, by decide, rfl, rfl⟩

theorem witness_MovStores :
    ∃ s : State, s.inv = true ∧ s.readRM8 (.mem (.base .bx)) = .ok 0x7E ∧
      s.readRM16 (.mem (.disp8 .bpSi 0xFE)) = .ok 0 ∧ s.memRead8 s.ds 0xFFFF = .ok 0 ∧
      s.memRead16 s.ds 0xFFFE = .ok 0 :=
  ⟨State.put { State.reset with bx := 0x200 } 0x200 [0x7E], by decide, rfl, rfl, rfl, rfl⟩

theorem witness_MovLoads :
    ∃ s : State, s.readRM8 (.mem (.base .bxSi)) = .ok 0 ∧ s.readRM16 (.mem (.direct 0xFFFE)) = .ok 0 ∧
      s.memRead8 s.ds 0xFFFF = .ok 0 ∧ s.memRead16 s.ds 0xFFFE = .ok 0 := ⟨State.reset, rfl, rfl, rfl, rfl⟩

theorem witness_MovToSegmentRegister :
    ∃ s : State, s.readRM16 (.mem (.direct 0xFFFE)) = .ok 0 := ⟨State.reset, rfl⟩

/-- A byte operand outside the store, a word operand outside it, and a word operand at 0xFFFF. -/
theorem witness_OperandFaults :
    ((Instr.addRm8R8 (.mem (.direct 0)) .al).operand8 outside = some (.mem (.direct 0)) ∧
      outside.readRM8 (.mem (.direct 0)) = .error .memBounds) ∧
    ((Instr.shlRm8Cnt (.mem (.direct 0)) 31).operand8 outside = some (.mem (.direct 0))) ∧
    ((Instr.pushRm16 (.mem (.direct 0xFFFF))).operand16 State.reset = some (.mem (.direct 0xFFFF)) ∧
      State.reset.readRM16 (.mem (.direct 0xFFFF)) = .error .segmentWrap) ∧
    (outside.memRead8 outside.ds 0 = .error .memBounds ∧
      State.reset.memRead16 State.reset.ds 0xFFFF = .error .segmentWrap) :=
  ⟨⟨rfl, rfl⟩, rfl, ⟨rfl, rfl⟩, rfl, rfl⟩

theorem witness_BaseConversion : (0xFF : Byte) ≠ 0 ∧ (1 : Byte) ≠ 0 ∧ (0 : Byte) = 0 := by decide

/-- The counts 1, 31, 32 and 33, in the instruction and in CL. -/
theorem witness_ShiftForms :
    State.reset.inv = true ∧ State.reset.readRM8 (.mem (.direct 0xFFFF)) = .ok 0 ∧
      State.reset.readRM16 (.mem (.direct 0xFFFE)) = .ok 0 ∧
      (32 : Byte).toNat % 32 = 0 ∧ (31 : Byte).toNat % 32 ≠ 0 ∧ (33 : Byte).toNat % 32 ≠ 0 ∧
      ((State.reset.reg8 .cl).toNat % 32 = 0) ∧
      (({ State.reset with cx := 0x001F } : State).reg8 .cl).toNat % 32 ≠ 0 :=
  ⟨by decide, rfl, rfl, by decide, by decide, by decide, by decide, by decide⟩

theorem witness_RotatesRotate : (8 = 8 ∨ 8 = 16) ∧ 0 < 1 ∧ 0 < 31 := by decide

theorem witness_ShiftsShift : (16 = 8 ∨ 16 = 16) ∧ 0 < 1 ∧ 0 < 31 := by decide

/-- The index registers at the ends of their range. -/
theorem witness_StringMoves :
    ∃ s : State, s.inv = true ∧ s.memRead8 s.ds s.si = .ok 0 ∧ s.memRead8 s.es s.di = .ok 0x77 ∧
      s.memRead16 s.ds s.si = .ok 0 ∧ s.memRead16 s.es s.di = .ok 0x77 :=
  ⟨State.put { State.reset with si := 0xFFFE } 0 [0x77], by decide, rfl, rfl, rfl, rfl⟩

theorem witness_StringCompares :
    ∃ s : State, s.memRead8 s.ds s.si = .ok 0x77 ∧ s.memRead8 s.es s.di = .ok 0 ∧
      s.memRead16 s.ds s.si = .ok 0x77 ∧ s.memRead16 s.es s.di = .ok 0 :=
  ⟨State.put { State.reset with di := 0xFFFE } 0 [0x77], rfl, rfl, rfl, rfl⟩

/-- SP at 0, where a push wraps, and at its reset value. -/
theorem witness_PushForms :
    ∃ s : State, s.inv = true ∧ s.memRead16 s.ss (s.sp - 2) = .ok 0 ∧ s.sp = 0 ∧
      s.readRM16 (.mem (.direct 0x0200)) = .ok 0xABCD ∧ (RM.mem (.direct 0x0200) : RM16) ≠ .reg .sp :=
  ⟨State.put { State.reset with sp := 0 } 0x200 [0xCD, 0xAB], by decide, rfl, rfl, rfl, by decide⟩

theorem witness_PopForms :
    ∃ s : State, s.memRead16 s.ss s.sp = .ok 0x1234 ∧ s.sp = 0xFFFE ∧ s.inv = true ∧
      s.readRM16 (.mem (.direct 0x0200)) = .ok 0 :=
  ⟨State.put State.reset 0xFFFE [0x34, 0x12], rfl, rfl, by decide, rfl⟩

theorem witness_PushThenPop :
    ∃ s : State, s.inv = true ∧ s.memRead16 s.ss (s.sp - 2) = .ok 0 ∧ Reg16.ax ≠ .sp :=
  ⟨{ State.reset with sp := 2 }, by decide, rfl, by decide⟩

theorem witness_StringAndStackFaults :
    outside.memRead8 outside.ds outside.si = .error .memBounds ∧
      outside.memRead16 outside.ds outside.si = .error .memBounds ∧
      outside.memRead8 outside.es outside.di = .error .memBounds ∧
      outside.memRead16 outside.es outside.di = .error .memBounds ∧
      outside.memRead16 outside.ss outside.sp = .error .memBounds ∧
      ({ State.reset with sp := 1 } : State).memRead16 0 ((1 : Word) - 2) = .error .segmentWrap :=
  ⟨rfl, rfl, rfl, rfl, rfl, rfl⟩

/-- A second access that faults where the first can be made: the destination of a string primitive, the second
stack word of a far call and of a far return, the stack word of PUSH r/m16, the destination of POP r/m16. -/
theorem witness_StringAndStackFaults_second :
    (∃ s : State, s.memRead8 s.ds s.si = .ok 0 ∧ s.memRead8 s.es s.di = .error .memBounds) ∧
    (∃ s : State, s.memRead16 s.ds s.si = .ok 0 ∧ s.memRead16 s.es s.di = .error .segmentWrap) ∧
    (∃ s : State, s.memRead16 s.ss (s.sp - 2) = .ok 0 ∧ s.memRead16 s.ss (s.sp - 4) = .error .segmentWrap) ∧
    (∃ s : State, s.memRead16 s.ss s.sp = .ok 0 ∧ s.memRead16 s.ss (s.sp + 2) = .error .segmentWrap) ∧
    (∃ s : State, s.memRead16 s.ss (s.sp - 2) = .error .memBounds ∧ s.readRM16 (.mem (.direct 0xFFFE)) = .ok 0) ∧
    (∃ s : State, s.memRead16 s.ss s.sp = .ok 0 ∧ s.readRM16 (.mem (.direct 0xFFFF)) = .error .segmentWrap) :=
  ⟨⟨{ State.reset with es := 0x10 }, rfl, rfl⟩, ⟨{ State.reset with di := 0xFFFF }, rfl, rfl⟩,
    ⟨{ State.reset with sp := 3 }, rfl, rfl⟩, ⟨{ State.reset with sp := 0xFFFD }, rfl, rfl⟩,
    ⟨{ State.reset with ss := 0x10 }, rfl, rfl⟩, ⟨State.reset, rfl, rfl⟩⟩

theorem witness_CallForms :
    ∃ s : State, s.inv = true ∧ s.memRead16 s.ss (s.sp - 2) = .ok 0 ∧ s.memRead16 s.ss (s.sp - 4) = .ok 0 :=
  ⟨{ State.reset with sp := 2 }, by decide, rfl, rfl⟩

theorem witness_ReturnForms :
    ∃ s : State, s.memRead16 s.ss s.sp = .ok 0x0105 ∧ s.memRead16 s.ss (s.sp + 2) = .ok 0x0002 :=
  ⟨State.put { State.reset with sp := 0xFFF8 } 0xFFF8 [0x05, 0x01, 0x02, 0x00], rfl, rfl⟩

theorem witness_CallThenReturn :
    ∃ s : State, s.inv = true ∧ s.memRead16 s.ss (s.sp - 2) = .ok 0 ∧ s.memRead16 s.ss (s.sp - 4) = .ok 0 :=
  ⟨State.reset, by decide, rfl, rfl⟩

theorem witness_LoopForms :
    State.reset.cfg.loopWritesFlags = false ∧
      ({ State.reset with cfg := { defaultConfig with loopWritesFlags := true } } : State).cfg.loopWritesFlags =
        true := by decide

theorem witness_HaltAndExit : ({ State.reset with ax := 0x4CFF } : State).reg8 .ah = 0x4C := by decide

theorem witness_InterruptServices :
    (0x20 : Byte) ≠ 0x21 ∧ ({ State.reset with ax := 0x0200 } : State).reg8 .ah = 0x02 ∧
      (({ State.reset with ax := 0x0300 } : State).reg8 .ah ≠ 0x4C ∧
        ({ State.reset with ax := 0x0300 } : State).reg8 .ah ≠ 0x09 ∧
        ({ State.reset with ax := 0x0300 } : State).reg8 .ah ≠ 0x02) := by decide

/-- A string of one byte and its terminator in the last bytes of the segment. -/
theorem witness_StringOutput_terminated :
    ∃ s : State, s.reg8 .ah = 0x09 ∧
      (∀ k (h : k < [(0x48 : Byte)].length),
        s.memRead8 s.ds (s.dx + BitVec.ofNat 16 k) = .ok [(0x48 : Byte)][k] ∧ [(0x48 : Byte)][k] ≠ 0x24) ∧
      [(0x48 : Byte)].length < s.cfg.strMax ∧
      s.memRead8 s.ds (s.dx + BitVec.ofNat 16 [(0x48 : Byte)].length) = .ok 0x24 := by
  refine ⟨State.put { State.reset with ax := 0x0900, dx := 0xFFFE } 0xFFFE [0x48, 0x24], by decide, ?_, by decide, rfl⟩
  intro k h
  obtain rfl : k = 0 := by simpa using h
  exact ⟨rfl, show (0x48 : Byte) ≠ 0x24 by decide⟩

/-- The bound reached at once, and a string that starts outside the store. -/
theorem witness_StringOutput_bound_and_fault :
    (∃ s : State, s.reg8 .ah = 0x09 ∧ ([] : List Byte).length = s.cfg.strMax) ∧
    (∃ s : State, s.reg8 .ah = 0x09 ∧ ([] : List Byte).length < s.cfg.strMax ∧
      s.memRead8 s.ds (s.dx + BitVec.ofNat 16 ([] : List Byte).length) = .error .memBounds) :=
  ⟨⟨{ State.reset with ax := 0x0900, cfg := { defaultConfig with strMax := 0 } }, by decide, rfl⟩,
    ⟨{ outside with ax := 0x0900 }, by decide, by decide, rfl⟩⟩

/-- The filter at the ends of the printable range. -/
theorem witness_StringOutput_filter :
    (0x20 ≤ (0x20 : Byte).toNat ∧ (0x7E : Byte).toNat ≤ 0x7E) ∧ defaultConfig.filterChanges = [] ∧
      ((0x1F : Byte).toNat < 0x20 ∧ 0x7E < (0x7F : Byte).toNat) := by decide

theorem witness_UnrecognizedStops :
    Instr.tierXUndefinedFF7.family = .unrecognized ∧ Instr.tierXPopCs.family = .unrecognized := by decide

theorem witness_LoadContract :
    State.reset.mem.wf = true ∧ (List.replicate 65536 (0 : Byte)).length ≤ 65536 ∧
      65536 < (List.replicate 65537 (0 : Byte)).length :=
  ⟨by decide, by rw [List.length_replicate], by rw [List.length_replicate]; decide⟩

theorem witness_StepRunsDecodedInstruction :
    ∃ (s : State) (bytes : List Byte) (i : Instr) (rest : List Byte),
      s.status = .running ∧ bytes.length = 6 ∧
      (∀ k (h : k < bytes.length), s.memRead8 s.cs (s.ip + BitVec.ofNat 16 k) = .ok bytes[k]) ∧
      decode bytes = .ok (i, rest) := by
  refine ⟨{ withCode [0xC7, 0x06, 0x00, 0x02, 0x34, 0x12] with draws := 0 },
    [0xC7, 0x06, 0x00, 0x02, 0x34, 0x12], .movRm16Imm16 (.mem (.direct 0x0200)) 0x1234, [], rfl, rfl, ?_, rfl⟩
  intro k h
  match k, h with
  | 0, _ | 1, _ | 2, _ | 3, _ | 4, _ | 5, _ => rfl
  | k + 6, h => exact absurd h (by simp)

theorem witness_StepStops :
    ({ State.reset with status := .terminated 0 } : State).status ≠ .running ∧
      (({ State.reset with cs := 16, ip := 0 } : State).status = .running ∧
        1048576 ≤ ({ State.reset with cs := 16, ip := 0 } : State).phys 16 0) := by decide

/-- A run of one step that ends, and a state that has ended. -/
theorem witness_StepStops_start :
    (∃ t, (withCode [0xF4]).EndsIn t) ∧
      ({ State.reset with status := .stopped 0x90 } : State).EndsIn { State.reset with status := .stopped 0x90 } :=
  ⟨⟨_, 1, rfl, by decide⟩, 0, rfl, by decide⟩

theorem witness_StepNeverRefuses_real : realMode.cfg.addrModel = .real8086 := by decide

theorem witness_StepNeverRefuses : exec (.aam 0) State.reset = .fault .divideByZero := by rfl

/-- A step from reset: `ADD [BX+SI], AL` over the zeros of an empty image. -/
theorem witness_StepKeepsInvariant : State.reset.inv = true ∧ ∃ t, step State.reset = .next t :=
  ⟨by decide, _, rfl⟩

theorem witness_StepKeepsSystemFlags : ∃ s t, step s = .next t := ⟨State.reset, _, rfl⟩

/-- Two states that differ in IF, in a reserved bit and in INTDELAY. -/
theorem witness_HiddenStateDoesNotLeak :
    ∃ s t : State, s ≠ t ∧ s.observable = t.observable :=
  ⟨State.reset, { State.reset with flags := 0xF000, intDelay := 2 }, by decide, by decide⟩

theorem witness_OutputsOnlyGrow :
    ∃ s t, step s = .next t ∧ s.conout ≠ t.conout :=
  ⟨{ withCode [0xCD, 0x21] with ax := 0x0200, dx := 0x41 }, _, rfl, by decide⟩

/-- An instruction outside each of the lists. -/
theorem witness_WhoWritesIpAndSegments :
    (∃ t, exec .incAx State.reset = .next t) ∧
      Instr.incAx.family ∉ [.jump, .call, .ret, .branch, .loop, .unrecognized] ∧
      Instr.incAx.family ∉ [Family.mov, .pop] ∧
      ∀ off seg n, Instr.incAx ≠ .jmpFar off seg ∧ Instr.incAx ≠ .callFar off seg ∧
        Instr.incAx ≠ .retf ∧ Instr.incAx ≠ .retfPop n :=
  ⟨⟨_, rfl⟩, by decide, by decide, fun _ _ _ => ⟨nofun, nofun, nofun, nofun⟩⟩

theorem witness_WhoEndsARun :
    ∃ t, exec .hlt State.reset = .next t ∧ t.status ≠ State.reset.status := ⟨_, rfl, by decide⟩

theorem witness_FrameOfArithmetic :
    (∃ op, (Instr.addRm8R8 (.mem (.direct 0xFFFF)) .al).family = .alu op) ∧
      (∃ t, exec (.addRm8R8 (.mem (.direct 0xFFFF)) .al) State.reset = .next t) ∧
      (∃ op, Instr.incSp.family = .incDec op) ∧ (∃ t, exec .incSp State.reset = .next t) ∧
      (∃ op, (Instr.rolRm16One (.reg .ax)).family = .shift op) ∧
      ∃ t, exec (.rolRm16One (.reg .ax)) State.reset = .next t :=
  ⟨⟨_, rfl⟩, ⟨_, rfl⟩, ⟨_, rfl⟩, ⟨_, rfl⟩, ⟨_, rfl⟩, _, rfl⟩

theorem witness_FrameOfDataMovement :
    Instr.movsw.family ∈ [Family.mov, .movs, .cmps, .stos, .lods, .scas, .push, .pop] ∧
      (∃ t, exec .movsw State.reset = .next t) ∧ ∃ t, exec .pushSp State.reset = .next t :=
  ⟨by decide, ⟨_, rfl⟩, _, rfl⟩

theorem witness_FrameOfControlAndSystem :
    (Instr.callFar 0 0).family ∈
        [Family.bcdAdjust, .bcdBase, .jump, .call, .ret, .branch, .loop, .int, .hlt, .unrecognized] ∧
      (∃ t, exec (.callFar 0 0) State.reset = .next t) ∧ ∃ t, exec .daa State.reset = .next t :=
  ⟨by decide, ⟨_, rfl⟩, _, rfl⟩

end Sys2Proof.Tests
end

section
/-! PROOF. R9: the instructions fault by a memory access only (spec/20_memory.md R62, R66), AAM with base 0
aside (R205), and none is refused; a step fetches, decodes and executes, so the same holds of it. -/

namespace Sys2Proof.Machine

/-- R9, R62, R66: the faults that an access to memory raises under an address model. -/
def Fault.OfAccess (m : AddrModel) : Fault → Prop
  | .memBounds => m ≠ .real8086
  | .segmentWrap => True
  | .divideByZero | .notRunning => False

/-- An operation that completes, or faults as an access to memory does. -/
def AccessFaultsOnly (m : AddrModel) {α : Type} (x : Except Fault α) : Prop :=
  ∀ f, x = .error f → f.OfAccess m

/-- An outcome that is a next state, or a fault of an access to memory. -/
def OutcomeOfAccess (m : AddrModel) : Result → Prop
  | .next _ => True
  | .fault f => f.OfAccess m
  | .refused _ => False

/-- R61, R62: under REAL8086 every address is inside the store. -/
theorem State.phys_lt_memSize_of_real8086 {s : State} (h : s.cfg.addrModel = .real8086) (seg off : Word) :
    s.phys seg off < memSize := by
  rw [State.phys, h]
  exact Nat.mod_lt _ (by decide)

/-- R62: an address outside the store is one of the other address model. -/
theorem Fault.ofAccess_memBounds {s : State} {seg off : Word} (h : memSize ≤ s.phys seg off) :
    Fault.memBounds.OfAccess s.cfg.addrModel :=
  fun hm => Nat.not_lt.mpr h (State.phys_lt_memSize_of_real8086 hm seg off)

namespace AccessFaultsOnly

variable {m : AddrModel} {α β : Type} {s : State}

/-! ### How operations are put together -/

theorem ok (a : α) : AccessFaultsOnly m (.ok a) := nofun

theorem bind {x : Except Fault α} {f : α → Except Fault β} (hx : AccessFaultsOnly m x)
    (hf : ∀ a, x = .ok a → AccessFaultsOnly m (f a)) : AccessFaultsOnly m (x.bind f) := by
  intro e he
  obtain h | ⟨a, ha, h⟩ := except_bind_eq_error.mp he
  · exact hx e h
  · exact hf a ha e h

theorem map {x : Except Fault α} {f : α → β} (hx : AccessFaultsOnly m x) :
    AccessFaultsOnly m (x.map f) :=
  fun e he => hx e (except_map_eq_error.mp he)

theorem finish {x : Except Fault State} (hx : AccessFaultsOnly m x) :
    OutcomeOfAccess m (Machine.finish x) := by
  cases x with
  | ok t => trivial
  | error f => exact hx f rfl

/-! ### Accesses -/

theorem memRead8 (seg off : Word) : AccessFaultsOnly s.cfg.addrModel (s.memRead8 seg off) := by
  intro f h
  obtain ⟨hb, rfl⟩ := State.memRead8_eq_error.mp h
  exact Fault.ofAccess_memBounds hb

theorem memRead16 (seg off : Word) : AccessFaultsOnly s.cfg.addrModel (s.memRead16 seg off) := by
  intro f h
  obtain ⟨-, rfl⟩ | ⟨-, hb, rfl⟩ := State.memRead16_eq_error.mp h
  · trivial
  · exact Fault.ofAccess_memBounds hb

theorem memWrite8 (seg off : Word) (v : Byte) :
    AccessFaultsOnly s.cfg.addrModel (s.memWrite8 seg off v) := by
  intro f h
  obtain ⟨hb, rfl⟩ := State.memWrite8_eq_error.mp h
  exact Fault.ofAccess_memBounds hb

theorem memWrite16 (seg off v : Word) : AccessFaultsOnly s.cfg.addrModel (s.memWrite16 seg off v) := by
  intro f h
  obtain ⟨-, rfl⟩ | ⟨-, hb, rfl⟩ := State.memWrite16_eq_error.mp h
  · trivial
  · exact Fault.ofAccess_memBounds hb

theorem readLoc8 (loc : Loc Reg8) : AccessFaultsOnly s.cfg.addrModel (s.readLoc8 loc) := by
  cases loc with
  | reg r => exact ok _
  | mem seg off => exact memRead8 seg off

theorem readLoc16 (loc : Loc Reg16) : AccessFaultsOnly s.cfg.addrModel (s.readLoc16 loc) := by
  cases loc with
  | reg r => exact ok _
  | mem seg off => exact memRead16 seg off

theorem writeLoc8 (loc : Loc Reg8) (v : Byte) : AccessFaultsOnly s.cfg.addrModel (s.writeLoc8 loc v) := by
  cases loc with
  | reg r => exact ok _
  | mem seg off => exact memWrite8 seg off v

theorem writeLoc16 (loc : Loc Reg16) (v : Word) :
    AccessFaultsOnly s.cfg.addrModel (s.writeLoc16 loc v) := by
  cases loc with
  | reg r => exact ok _
  | mem seg off => exact memWrite16 seg off v

theorem readRM8 (rm : RM8) : AccessFaultsOnly s.cfg.addrModel (s.readRM8 rm) := readLoc8 _

theorem readRM16 (rm : RM16) : AccessFaultsOnly s.cfg.addrModel (s.readRM16 rm) := readLoc16 _

theorem push16 (v : Word) : AccessFaultsOnly s.cfg.addrModel (s.push16 v) := memWrite16 _ _ v

theorem pop16 : AccessFaultsOnly s.cfg.addrModel s.pop16 := map (memRead16 _ _)

/-- The fetch of any number of bytes. -/
theorem fetchFrom (n : Nat) (ip : Word) : AccessFaultsOnly s.cfg.addrModel (s.fetchFrom n ip) := by
  induction n generalizing ip with
  | zero => exact ok _
  | succ n ih => exact bind (memRead8 _ _) fun _ _ => map (ih _)

/-! ### The shared operations that access memory -/

theorem aluRm8 (op : AluOp) (rm : RM8) (v : Byte) : AccessFaultsOnly s.cfg.addrModel (aluRm8 op rm v s) := by
  refine bind (readRM8 rm) fun left _ => ?_
  dsimp only
  split
  · exact writeLoc8 _ _
  · exact ok _

theorem aluRm16 (op : AluOp) (rm : RM16) (v : Word) :
    AccessFaultsOnly s.cfg.addrModel (aluRm16 op rm v s) := by
  refine bind (readRM16 rm) fun left _ => ?_
  dsimp only
  split
  · exact writeLoc16 _ _
  · exact ok _

theorem aluReg8FromRm (op : AluOp) (r : Reg8) (rm : RM8) :
    AccessFaultsOnly s.cfg.addrModel (aluReg8FromRm op r rm s) :=
  bind (readRM8 rm) fun _ _ => ok _

theorem aluReg16FromRm (op : AluOp) (r : Reg16) (rm : RM16) :
    AccessFaultsOnly s.cfg.addrModel (aluReg16FromRm op r rm s) :=
  bind (readRM16 rm) fun _ _ => ok _

theorem incDecRm8 (op : IncDec) (rm : RM8) : AccessFaultsOnly s.cfg.addrModel (incDecRm8 op rm s) :=
  bind (readRM8 rm) fun _ _ => writeLoc8 _ _

theorem incDecRm16 (op : IncDec) (rm : RM16) : AccessFaultsOnly s.cfg.addrModel (incDecRm16 op rm s) :=
  bind (readRM16 rm) fun _ _ => writeLoc16 _ _

theorem shiftRm8 (op : ShiftOp) (rm : RM8) (n : Byte) :
    AccessFaultsOnly s.cfg.addrModel (shiftRm8 op rm n s) := by
  unfold Machine.shiftRm8
  split
  · exact ok _
  · exact bind (readRM8 rm) fun _ _ => writeLoc8 _ _

theorem shiftRm16 (op : ShiftOp) (rm : RM16) (n : Byte) :
    AccessFaultsOnly s.cfg.addrModel (shiftRm16 op rm n s) := by
  unfold Machine.shiftRm16
  split
  · exact ok _
  · exact bind (readRM16 rm) fun _ _ => writeLoc16 _ _

theorem copyElement8 : AccessFaultsOnly s.cfg.addrModel (copyElement8 s) :=
  bind (memRead8 _ _) fun _ _ => map (memWrite8 _ _ _)

theorem copyElement16 : AccessFaultsOnly s.cfg.addrModel (copyElement16 s) :=
  bind (memRead16 _ _) fun _ _ => map (memWrite16 _ _ _)

theorem compareElements8 : AccessFaultsOnly s.cfg.addrModel (compareElements8 s) :=
  bind (memRead8 _ _) fun _ _ => map (memRead8 _ _)

theorem compareElements16 : AccessFaultsOnly s.cfg.addrModel (compareElements16 s) :=
  bind (memRead16 _ _) fun _ _ => map (memRead16 _ _)

theorem pushRm (rm : RM16) : AccessFaultsOnly s.cfg.addrModel (pushRm rm s) := by
  cases rm with
  | reg r => exact push16 _
  | mem o => exact bind (readRM16 _) fun _ _ => push16 _

/-- The write is in the state after the pop, which has the same parameters. -/
theorem popRm (rm : RM16) : AccessFaultsOnly s.cfg.addrModel (popRm rm s) := by
  refine bind pop16 fun x hx => ?_
  rw [← ((Keeps.refl s).pop16 hx).cfg]
  exact writeLoc16 _ _

/-- The second push is in the state after the first, which has the same parameters. -/
theorem callFarTo (off seg : Word) : AccessFaultsOnly s.cfg.addrModel (callFarTo off seg s) := by
  refine bind (push16 _) fun t ht => map ?_
  rw [← ((Keeps.refl s).push16 ht).cfg]
  exact push16 _

/-- The second pop is in the state after the first, which has the same parameters. -/
theorem returnFar (n : Word) : AccessFaultsOnly s.cfg.addrModel (returnFar n s) := by
  refine bind pop16 fun x hx => map ?_
  rw [← ((Keeps.refl s).pop16 hx).cfg]
  exact pop16

/-- R365: the loop reads one byte a turn. -/
theorem stringOutput (n : Nat) (off : Word) : AccessFaultsOnly s.cfg.addrModel (s.stringOutput n off) := by
  induction n generalizing off with
  | zero => exact ok _
  | succ n ih =>
    refine bind (memRead8 _ _) fun c _ => ?_
    split
    · exact ok _
    · exact map (ih _)

/-- R362 to R367: of the services, string output alone accesses memory. -/
theorem dosService : AccessFaultsOnly s.cfg.addrModel (dosService s) := by
  unfold Machine.dosService
  split_ifs
  · exact ok _
  · exact map (stringOutput _ _)
  · exact ok _
  · exact ok _

theorem bridge (n : Byte) : AccessFaultsOnly s.cfg.addrModel (bridge n s) := by
  unfold Machine.bridge
  split
  · exact dosService
  · exact ok _

/-- R205: AAM with another base than 0 completes. -/
theorem splitByBase {base : Byte} (h : base ≠ 0) : AccessFaultsOnly m (splitByBase base s) := by
  rw [Machine.splitByBase, if_neg h]
  exact ok _

/-! ### Every instruction -/

/-- R9, R62, R66, R205: every instruction but AAM with base 0 completes or faults by an access. The split is
made here because what `exec_of_operations` carries to an instruction does not say which instruction it is. The
last case is the instructions that access no memory, and complete. -/
theorem exec_outcomeOfAccess {i : Instr} (s : State) (h : i ≠ .aam 0) :
    OutcomeOfAccess s.cfg.addrModel (exec i s) := by
  cases i with
  | aam base => exact finish (splitByBase fun h0 => h (congrArg Instr.aam h0))
  | addRm8R8 | orRm8R8 | adcRm8R8 | sbbRm8R8 | andRm8R8 | subRm8R8 | xorRm8R8 | cmpRm8R8
    | addRm8Imm8 | orRm8Imm8 | adcRm8Imm8 | sbbRm8Imm8 | andRm8Imm8 | subRm8Imm8 | xorRm8Imm8
    | cmpRm8Imm8 => exact finish (aluRm8 _ _ _)
  | addRm16R16 | orRm16R16 | adcRm16R16 | sbbRm16R16 | andRm16R16 | subRm16R16 | xorRm16R16
    | cmpRm16R16 | addRm16Imm16 | orRm16Imm16 | adcRm16Imm16 | sbbRm16Imm16 | andRm16Imm16
    | subRm16Imm16 | xorRm16Imm16 | cmpRm16Imm16 | addRm16Simm8 | orRm16Simm8 | adcRm16Simm8
    | sbbRm16Simm8 | andRm16Simm8 | subRm16Simm8 | xorRm16Simm8 | cmpRm16Simm8 =>
    exact finish (aluRm16 _ _ _)
  | addR8Rm8 | orR8Rm8 | adcR8Rm8 | sbbR8Rm8 | andR8Rm8 | subR8Rm8 | xorR8Rm8 | cmpR8Rm8 =>
    exact finish (aluReg8FromRm _ _ _)
  | addR16Rm16 | orR16Rm16 | adcR16Rm16 | sbbR16Rm16 | andR16Rm16 | subR16Rm16 | xorR16Rm16
    | cmpR16Rm16 => exact finish (aluReg16FromRm _ _ _)
  | incRm8 | decRm8 => exact finish (incDecRm8 _ _)
  | incRm16 | decRm16 => exact finish (incDecRm16 _ _)
  | movRm8R8 | movRm8Imm8 => exact finish (writeLoc8 _ _)
  | movRm16R16 | movRm16Es | movRm16Cs | movRm16Ss | movRm16Ds | movRm16Imm16 =>
    exact finish (writeLoc16 _ _)
  | movR8Rm8 => exact finish (map (readRM8 _))
  | movR16Rm16 | movEsRm16 | movSsRm16 | movDsRm16 => exact finish (map (readRM16 _))
  | movAlMoffs | lodsb | scasb => exact finish (map (memRead8 _ _))
  | movAxMoffs | lodsw | scasw => exact finish (map (memRead16 _ _))
  | movMoffsAl => exact finish (memWrite8 _ _ _)
  | movMoffsAx => exact finish (memWrite16 _ _ _)
  | stosb => exact finish (map (memWrite8 _ _ _))
  | stosw => exact finish (map (memWrite16 _ _ _))
  | movsb => exact finish copyElement8
  | movsw => exact finish copyElement16
  | cmpsb => exact finish compareElements8
  | cmpsw => exact finish compareElements16
  | rolRm8Cnt | rorRm8Cnt | rclRm8Cnt | rcrRm8Cnt | shlRm8Cnt | shrRm8Cnt | salRm8Cnt | sarRm8Cnt
    | rolRm8One | rorRm8One | rclRm8One | rcrRm8One | shlRm8One | shrRm8One | salRm8One | sarRm8One
    | rolRm8Cl | rorRm8Cl | rclRm8Cl | rcrRm8Cl | shlRm8Cl | shrRm8Cl | salRm8Cl | sarRm8Cl =>
    exact finish (shiftRm8 _ _ _)
  | rolRm16Cnt | rorRm16Cnt | rclRm16Cnt | rcrRm16Cnt | shlRm16Cnt | shrRm16Cnt | salRm16Cnt
    | sarRm16Cnt | rolRm16One | rorRm16One | rclRm16One | rcrRm16One | shlRm16One | shrRm16One
    | salRm16One | sarRm16One | rolRm16Cl | rorRm16Cl | rclRm16Cl | rcrRm16Cl | shlRm16Cl
    | shrRm16Cl | salRm16Cl | sarRm16Cl => exact finish (shiftRm16 _ _ _)
  | pushEs | pushCs | pushSs | pushDs | pushAx | pushCx | pushDx | pushBx | pushSp | pushBp | pushSi
    | pushDi => exact finish (push16 _)
  | popEs | popSs | popDs | popAx | popCx | popDx | popBx | popSp | popBp | popSi | popDi | retPop
    | ret => exact finish (map pop16)
  | pushRm16 => exact finish (pushRm _)
  | popRm16 => exact finish (popRm _)
  | callNear => exact finish (map (push16 _))
  | callFar => exact finish (callFarTo _ _)
  | retfPop | retf => exact finish (returnFar _)
  | int => exact finish (bridge _)
  | _ => trivial

end AccessFaultsOnly

/-- R205: AAM with base 0. -/
theorem exec_aam_zero (s : State) : exec (.aam 0) s = .fault .divideByZero := rfl

/-! ### One step -/

/-- As many bytes are fetched as were asked for. -/
theorem State.fetchFrom_length {s : State} {n : Nat} {ip : Word} {bytes : List Byte}
    (h : s.fetchFrom n ip = .ok bytes) : bytes.length = n := by
  induction n generalizing ip bytes with
  | zero => cases h; rfl
  | succ n ih =>
    obtain ⟨b, -, h⟩ := except_bind_eq_ok.mp h
    obtain ⟨rest, hrest, rfl⟩ := except_map_eq_ok.mp h
    rw [List.length_cons, ih hrest]

/-- R93, R121: six bytes always hold an instruction. -/
theorem decode_eq_ok_of_length {bytes : List Byte} (h : bytes.length = maxInstrLength) :
    ∃ i rest, decode bytes = .ok (i, rest) := by
  cases bytes with
  | nil => cases h
  | cons op bytes =>
    obtain ⟨i, rest, hread, -, -⟩ := (entryOf op).read_length (Nat.succ.inj h).ge
    exact ⟨i, rest, hread⟩

/-- R342, R35: what a step can be: none after the end, a fetch that faults, or an instruction executed past its
`n` bytes. -/
theorem step_cases (s : State) :
    step s = .fault .notRunning ∨ (∃ f, s.fetchWindow = .error f ∧ step s = .fault f) ∨
      ∃ i n, step s = endStep (exec i (s.advance n)) := by
  unfold step
  split
  · right
    unfold stepRunning
    split
    next f hf => exact .inl ⟨f, hf, rfl⟩
    next bytes hbytes =>
      obtain ⟨i, rest, hi⟩ := decode_eq_ok_of_length (State.fetchFrom_length hbytes)
      exact .inr ⟨i, _, by rw [runBytes, hi]⟩
  · exact .inl rfl
  · exact .inl rfl

theorem OutcomeOfAccess.endStep {m : AddrModel} {r : Result} (h : OutcomeOfAccess m r) :
    OutcomeOfAccess m (endStep r) := by
  cases r <;> exact h

/-- R9: a step that neither completes nor faults by an access is that of a machine that has ended, or of AAM with
base 0. -/
theorem step_outcomeOfAccess (s : State) :
    step s = .fault .notRunning ∨ step s = .fault .divideByZero ∨
      OutcomeOfAccess s.cfg.addrModel (step s) := by
  obtain h | ⟨f, hf, h⟩ | ⟨i, n, h⟩ := step_cases s
  · exact .inl h
  · rw [h]
    exact .inr (.inr (AccessFaultsOnly.fetchFrom _ _ f hf))
  · rw [h]
    by_cases hi : i = .aam 0
    · rw [hi, exec_aam_zero]
      exact .inr (.inl rfl)
    · exact .inr (.inr (AccessFaultsOnly.exec_outcomeOfAccess (s.advance n) hi).endStep)

/-- R120, R121: no step is refused. -/
theorem step_ne_refused (s : State) (r : Refusal) : step s ≠ .refused r := by
  intro hr
  obtain h | h | h := step_outcomeOfAccess s
  · cases hr.symm.trans h
  · cases hr.symm.trans h
  · rw [hr] at h
    exact h

/-- R62: no step faults by a bound under REAL8086. -/
theorem step_ne_memBounds {s : State} (hm : s.cfg.addrModel = .real8086) : step s ≠ .fault .memBounds := by
  intro hr
  obtain h | h | h := step_outcomeOfAccess s
  · cases hr.symm.trans h
  · cases hr.symm.trans h
  · rw [hr] at h
    exact h hm

/-- R205: an instruction that faults by division is AAM with base 0. -/
theorem eq_aam_zero_of_exec_divideByZero {i : Instr} {s : State} (h : exec i s = .fault .divideByZero) :
    i = .aam 0 := by
  by_contra hi
  have hacc := AccessFaultsOnly.exec_outcomeOfAccess s hi
  rw [h] at hacc
  exact hacc

/-- R35: only a step of a machine that has ended faults so, never an instruction. -/
theorem exec_ne_notRunning (i : Instr) (s : State) : exec i s ≠ .fault .notRunning := by
  intro h
  by_cases hi : i = .aam 0
  · rw [hi, exec_aam_zero] at h
    cases h
  · have hacc := AccessFaultsOnly.exec_outcomeOfAccess s hi
    rw [h] at hacc
    exact hacc

end Sys2Proof.Machine

namespace Sys2Proof

open Sys2Proof.Machine

/-- Settles O50. By `AccessFaultsOnly.exec_outcomeOfAccess`, every instruction but AAM with base 0 completes or
faults by an access to memory; by `step_cases`, a running machine's step is a fetch, which is such accesses too,
and one instruction. -/
theorem stepNeverRefuses : Obligations.StepNeverRefuses := fun s =>
  ⟨step_ne_refused s, fun _ => eq_aam_zero_of_exec_divideByZero, fun i => exec_ne_notRunning i s,
    step_ne_memBounds⟩

end Sys2Proof
end

section
/-! PROOF. R31, R33, R34: no instruction reads IF, a reserved bit of FLAGS or INTDELAY. Two states that agree on
everything else read alike (`Alike.read`), and every update keeps them so; only what an operation makes of FLAGS is
compared bit by bit. -/

namespace Sys2Proof.Machine

/-! ### Flags words that agree on the bits instructions read or write -/

/-- Two flags words that differ in IF and the reserved bits at most. -/
def FlagsAgree (fl fl' : Word) : Prop := fl &&& activeFlagBits = fl' &&& activeFlagBits

theorem flagsAgree_iff {fl fl' : Word} :
    FlagsAgree fl fl' ↔ ∀ k, activeFlagBits.getLsbD k = true → fl.getLsbD k = fl'.getLsbD k := by
  constructor
  · intro h k hk
    simpa [hk] using congrArg (·.getLsbD k) h
  · intro h
    apply BitVec.eq_of_getLsbD_eq
    intro k _
    cases hk : activeFlagBits.getLsbD k with
    | false => simp [hk]
    | true => simp [hk, h k hk]

/-- R33: IF is the one flag that no instruction reads. -/
theorem getLsbD_activeFlagBits {f : Flag} (hf : f ≠ .if_) : activeFlagBits.getLsbD f.bit = true := by
  cases f
  case if_ => exact absurd rfl hf
  all_goals rfl

namespace FlagsAgree

variable {w : Nat} {fl fl' : Word}

theorem getFlag_eq (h : FlagsAgree fl fl') {f : Flag} (hf : f ≠ .if_) : getFlag fl f = getFlag fl' f :=
  flagsAgree_iff.mp h _ (getLsbD_activeFlagBits hf)

theorem putFlag (h : FlagsAgree fl fl') (f : Flag) (b : Bool) :
    FlagsAgree (putFlag fl f b) (putFlag fl' f b) := by
  refine flagsAgree_iff.mpr fun k hk => ?_
  rw [getLsbD_putFlag, getLsbD_putFlag, flagsAgree_iff.mp h k hk]

theorem putCarries (h : FlagsAgree fl fl') (c a o : Bool) :
    FlagsAgree (putCarries fl c a o) (putCarries fl' c a o) :=
  ((h.putFlag _ _).putFlag _ _).putFlag _ _

theorem setSZP (h : FlagsAgree fl fl') (r : BitVec w) : FlagsAgree (setSZP r fl) (setSZP r fl') :=
  ((h.putFlag _ _).putFlag _ _).putFlag _ _

theorem logicFlags (h : FlagsAgree fl fl') (r : BitVec w) :
    FlagsAgree (logicFlags r fl) (logicFlags r fl') :=
  (h.putCarries _ _ _).setSZP r

theorem cond_holds (h : FlagsAgree fl fl') (c : Cond) : c.holds fl = c.holds fl' := by
  have hget : ∀ {f : Flag}, f ≠ .if_ → getFlag fl f = getFlag fl' f := h.getFlag_eq
  cases c <;> simp [Cond.holds, hget]

theorem loop_holds (h : FlagsAgree fl fl') (k : LoopKind) : k.holds fl = k.holds fl' := by
  cases k with
  | always => rfl
  | whileZero => exact h.getFlag_eq nofun
  | whileNotZero => exact congrArg (!·) (h.getFlag_eq nofun)

end FlagsAgree

/-- A result and a flags word that are the same but for the flags word's hidden bits. -/
def ResultsAgree {w : Nat} (x y : BitVec w × Word) : Prop := x.1 = y.1 ∧ FlagsAgree x.2 y.2

section

variable {w : Nat} {fl fl' : Word} (h : FlagsAgree fl fl')
include h

/-- R161: the sum is of the operands alone. -/
theorem addFlags_agree (a b : BitVec w) (c : Bool) :
    ResultsAgree (addFlags a b c fl) (addFlags a b c fl') :=
  ⟨rfl, (h.putCarries _ _ _).setSZP _⟩

/-- R162: the difference is of the operands alone. -/
theorem subFlags_agree (a b : BitVec w) (c : Bool) :
    ResultsAgree (subFlags a b c fl) (subFlags a b c fl') :=
  ⟨rfl, (h.putCarries _ _ _).setSZP _⟩

/-- R170 to R177: a two-operand instruction reads CF at most. -/
theorem aluCompute_agree (op : AluOp) (a b : BitVec w) :
    ResultsAgree (op.compute a b fl) (op.compute a b fl') := by
  have hcf : getFlag fl .cf = getFlag fl' .cf := h.getFlag_eq nofun
  cases op with
  | add => exact addFlags_agree h _ _ _
  | sub | cmp => exact subFlags_agree h _ _ _
  | or | and | xor => exact ⟨rfl, h.logicFlags _⟩
  | adc => simp only [AluOp.compute, hcf]; exact addFlags_agree h _ _ _
  | sbb => simp only [AluOp.compute, hcf]; exact subFlags_agree h _ _ _

/-- R178, R179: INC and DEC put CF back as it was. -/
theorem incDecCompute_agree (op : IncDec) (v : BitVec w) :
    ResultsAgree (op.compute v fl) (op.compute v fl') := by
  simp only [IncDec.compute, h.getFlag_eq (f := .cf) nofun]
  cases op with
  | inc => exact ⟨rfl, (addFlags_agree h v 1 false).2.putFlag _ _⟩
  | dec => exact ⟨rfl, (subFlags_agree h v 1 false).2.putFlag _ _⟩

/-- R222 to R226: a shift or rotate reads CF at most. -/
theorem shiftCompute_agree (op : ShiftOp) (v : BitVec w) (count : Byte) :
    ResultsAgree (op.compute v count fl) (op.compute v count fl') := by
  simp only [ShiftOp.compute, h.getFlag_eq (f := .cf) nofun]
  refine ⟨rfl, FlagsAgree.putFlag (FlagsAgree.putFlag ?_ _ _) _ _⟩
  split
  · exact h.logicFlags _
  · exact h

end

/-! ### States that agree on everything that can be observed -/

/-- Two states that differ in IF, the reserved bits of FLAGS and INTDELAY at most. -/
def Alike (s t : State) : Prop := s.observable = t.observable

namespace Alike

variable {α : Type} {s t : State}

/-- What can be read of a state without its hidden part is the same in both. -/
theorem read (h : Alike s t) (g : State → α) (hg : ∀ u, g u = g u.observable) : g s = g t := by
  rw [hg s, hg t, h]

/-- An update that leaves the hidden part alone keeps two states alike. -/
theorem update (h : Alike s t) (f : State → State) (hf : ∀ u, (f u).observable = f u.observable) :
    Alike (f s) (f t) := by
  rw [Alike, hf s, hf t, h]

theorem flagsAgree (h : Alike s t) : FlagsAgree s.flags t.flags := congrArg State.flags h

theorem setReg16 (h : Alike s t) (r : Reg16) (v : Word) : Alike (s.setReg16 r v) (t.setReg16 r v) :=
  h.update (·.setReg16 r v) fun _ => by cases r <;> rfl

theorem setReg8 (h : Alike s t) (r : Reg8) (v : Byte) : Alike (s.setReg8 r v) (t.setReg8 r v) :=
  h.update (·.setReg8 r v) fun _ => by cases r <;> rfl

/-- R34: that a write of SS sets INTDELAY cannot be observed. -/
theorem setSreg (h : Alike s t) (r : SReg) (v : Word) : Alike (s.setSreg r v) (t.setSreg r v) := by
  cases r
  case ss => exact h.update (fun u => { u with ss := v }) fun _ => rfl
  all_goals exact h.update (·.setSreg _ v) fun _ => rfl

theorem withFlags (h : Alike s t) {a b : Word} (hab : FlagsAgree a b) :
    Alike (s.withFlags a) (t.withFlags b) :=
  congrArg₂ State.withFlags (show s.observable = t.observable from h)
    (show a &&& activeFlagBits = b &&& activeFlagBits from hab)

theorem withIp (h : Alike s t) (v : Word) : Alike (s.withIp v) (t.withIp v) :=
  h.update (·.withIp v) fun _ => rfl

theorem withMem (h : Alike s t) (m : Memory) : Alike (s.withMem m) (t.withMem m) :=
  h.update (·.withMem m) fun _ => rfl

theorem emitDiag (h : Alike s t) (e : DiagEvent) : Alike (s.emitDiag e) (t.emitDiag e) :=
  h.update (·.emitDiag e) fun _ => rfl

theorem emitConout (h : Alike s t) (bytes : List Byte) :
    Alike (s.emitConout bytes) (t.emitConout bytes) :=
  h.update (·.emitConout bytes) fun _ => rfl

theorem drew (h : Alike s t) (n : Nat) : Alike (s.drew n) (t.drew n) := h.update (·.drew n) fun _ => rfl

theorem branch (h : Alike s t) (d : Word) : Alike (s.branch d) (t.branch d) :=
  h.update (·.branch d) fun _ => rfl

theorem raiseTerminate (h : Alike s t) (code : Byte) :
    Alike (raiseTerminate code s) (raiseTerminate code t) :=
  h.update (Machine.raiseTerminate code) fun _ => rfl

theorem raiseUnsupported (h : Alike s t) (op : Byte) (n : Nat) :
    Alike (raiseUnsupported op n s) (raiseUnsupported op n t) :=
  h.update (Machine.raiseUnsupported op n) fun _ => rfl

theorem endInstruction (h : Alike s t) : Alike s.endInstruction t.endInstruction := h

theorem flag (h : Alike s t) {f : Flag} (hf : f ≠ .if_) : s.flag f = t.flag f := h.flagsAgree.getFlag_eq hf

/-- R251: of FLAGS, the advance of an index reads DF. -/
theorem stepIndex (h : Alike s t) (x k : Word) : s.stepIndex x k = t.stepIndex x k := by
  rw [State.stepIndex, State.stepIndex, h.flag (f := .df) nofun]

theorem advanceSi (h : Alike s t) (k : Word) : Alike (s.advanceSi k) (t.advanceSi k) := by
  rw [State.advanceSi, State.advanceSi, h.stepIndex, h.read State.si fun _ => rfl]
  exact h.setReg16 _ _

theorem advanceDi (h : Alike s t) (k : Word) : Alike (s.advanceDi k) (t.advanceDi k) := by
  rw [State.advanceDi, State.advanceDi, h.stepIndex, h.read State.di fun _ => rfl]
  exact h.setReg16 _ _

/-- R200: the flags of a BCD correction come from AL, CF and AF. -/
theorem applyCorrection (h : Alike s t) (c : Correction) :
    Alike (applyCorrection c s) (applyCorrection c t) := by
  rw [Machine.applyCorrection, Machine.applyCorrection, h.read (·.drawnBit 0) fun _ => rfl]
  exact ((h.withFlags ((h.flagsAgree.putCarries _ _ _).setSZP _)).setReg8 _ _).drew 1

theorem putBaseResult (h : Alike s t) (ah al : Byte) :
    Alike (putBaseResult ah al s) (putBaseResult ah al t) := by
  rw [Machine.putBaseResult, Machine.putBaseResult, h.read (·.drawnBit 0) fun _ => rfl,
    h.read (·.drawnBit 1) fun _ => rfl, h.read (·.drawnBit 2) fun _ => rfl]
  exact (((h.withFlags ((h.flagsAgree.putCarries _ _ _).setSZP _)).setReg8 _ _).setReg8 _ _).drew 3

theorem logBase (h : Alike s t) (base : Byte) : Alike (logBase base s) (logBase base t) := by
  unfold Machine.logBase
  split
  · exact h
  · exact h.emitDiag _

/-- R324: CX and, where the parameter says so, FLAGS. -/
theorem countDown (h : Alike s t) : Alike s.countDown t.countDown := by
  rw [State.countDown, State.countDown, h.read State.cx fun _ => rfl, h.read State.cfg fun _ => rfl]
  refine (h.withFlags ?_).setReg16 _ _
  split
  · exact (incDecCompute_agree h.flagsAgree .dec t.cx).2
  · exact h.flagsAgree

end Alike

/-! ### Outcomes that are alike -/

/-- Two operations that fault the same, or complete in states that are alike. -/
def OutcomesAlike (x y : Except Fault State) : Prop := x.map State.observable = y.map State.observable

namespace OutcomesAlike

variable {α : Type} {s t : State} {x y : Except Fault State}

theorem ok (h : Alike s t) : OutcomesAlike (.ok s) (.ok t) := congrArg Except.ok h

theorem error (f : Fault) : OutcomesAlike (.error f) (.error f) := rfl

/-- Two operations that go on from the same read. -/
theorem bindRead {z z' : Except Fault α} (hz : z = z') {f g : α → Except Fault State}
    (h : ∀ a, OutcomesAlike (f a) (g a)) : OutcomesAlike (z.bind f) (z'.bind g) := by
  subst hz
  cases z with
  | error e => exact error e
  | ok a => exact h a

theorem mapRead {z z' : Except Fault α} (hz : z = z') {f g : α → State} (h : ∀ a, Alike (f a) (g a)) :
    OutcomesAlike (z.map f) (z'.map g) := by
  subst hz
  cases z with
  | error e => exact error e
  | ok a => exact ok (h a)

/-- Two operations that go on from states that are alike. -/
theorem bind (hx : OutcomesAlike x y) {f g : State → Except Fault State}
    (h : ∀ {s t}, Alike s t → OutcomesAlike (f s) (g t)) : OutcomesAlike (x.bind f) (y.bind g) := by
  cases x <;> cases y
  case error.error => exact hx
  case ok.ok => exact h (Except.ok.inj hx)
  all_goals cases hx

theorem map (hx : OutcomesAlike x y) {f g : State → State} (h : ∀ {s t}, Alike s t → Alike (f s) (g t)) :
    OutcomesAlike (x.map f) (y.map g) := by
  cases x <;> cases y
  case error.error => exact hx
  case ok.ok => exact ok (h (Except.ok.inj hx))
  all_goals cases hx

theorem finish (h : OutcomesAlike x y) : observed (Machine.finish x) = observed (Machine.finish y) := by
  cases x <;> cases y
  case error.error => exact congrArg Host.Outcome.fault (Except.error.inj h)
  case ok.ok => exact congrArg Host.Outcome.next (Except.ok.inj h)
  all_goals cases h

/-! ### Writes and the stack -/

theorem memWrite8 (h : Alike s t) (seg off : Word) (v : Byte) :
    OutcomesAlike (s.memWrite8 seg off v) (t.memWrite8 seg off v) := by
  rw [State.memWrite8, State.memWrite8, h.read (·.phys seg off) fun _ => rfl,
    h.read State.mem fun _ => rfl]
  split
  · exact ok (h.withMem _)
  · exact error _

theorem memWrite16 (h : Alike s t) (seg off v : Word) :
    OutcomesAlike (s.memWrite16 seg off v) (t.memWrite16 seg off v) := by
  rw [State.memWrite16, State.memWrite16, h.read (·.phys seg off) fun _ => rfl,
    h.read (·.phys seg (off + 1)) fun _ => rfl, h.read State.mem fun _ => rfl]
  split
  · exact error _
  · split
    · exact ok (h.withMem _)
    · exact error _

theorem writeLoc8 (h : Alike s t) (loc : Loc Reg8) (v : Byte) :
    OutcomesAlike (s.writeLoc8 loc v) (t.writeLoc8 loc v) := by
  cases loc with
  | reg r => exact ok (h.setReg8 r v)
  | mem seg off => exact memWrite8 h seg off v

theorem writeLoc16 (h : Alike s t) (loc : Loc Reg16) (v : Word) :
    OutcomesAlike (s.writeLoc16 loc v) (t.writeLoc16 loc v) := by
  cases loc with
  | reg r => exact ok (h.setReg16 r v)
  | mem seg off => exact memWrite16 h seg off v

/-- The write of a result and its flags to the r/m operand. -/
theorem writeResult8 (h : Alike s t) (loc : Loc Reg8) {x y : Byte × Word} (hxy : ResultsAgree x y) :
    OutcomesAlike ((s.withFlags x.2).writeLoc8 loc x.1) ((t.withFlags y.2).writeLoc8 loc y.1) := by
  obtain ⟨hres, hfl⟩ := hxy
  rw [hres]
  exact writeLoc8 (h.withFlags hfl) loc y.1

theorem writeResult16 (h : Alike s t) (loc : Loc Reg16) {x y : Word × Word} (hxy : ResultsAgree x y) :
    OutcomesAlike ((s.withFlags x.2).writeLoc16 loc x.1) ((t.withFlags y.2).writeLoc16 loc y.1) := by
  obtain ⟨hres, hfl⟩ := hxy
  rw [hres]
  exact writeLoc16 (h.withFlags hfl) loc y.1

theorem push16 (h : Alike s t) (v : Word) : OutcomesAlike (s.push16 v) (t.push16 v) := by
  rw [State.push16, State.push16, h.read State.sp fun _ => rfl, h.read State.ss fun _ => rfl]
  exact memWrite16 (h.setReg16 _ _) _ _ _

/-- Two operations that go on from the word popped and the states after the pop. -/
theorem popBind (h : Alike s t) {f g : Word × State → Except Fault State}
    (hfg : ∀ (v : Word) {s t : State}, Alike s t → OutcomesAlike (f (v, s)) (g (v, t))) :
    OutcomesAlike (s.pop16.bind f) (t.pop16.bind g) := by
  rw [State.pop16, State.pop16, h.read (fun u => u.memRead16 u.ss u.sp) fun _ => rfl]
  cases t.memRead16 t.ss t.sp with
  | error e => exact error e
  | ok v =>
    refine hfg v ?_
    rw [h.read State.sp fun _ => rfl]
    exact h.setReg16 _ _

theorem popMap (h : Alike s t) {f g : Word × State → State}
    (hfg : ∀ (v : Word) {s t : State}, Alike s t → Alike (f (v, s)) (g (v, t))) :
    OutcomesAlike (s.pop16.map f) (t.pop16.map g) := by
  have hbind := popBind h (f := fun r => .ok (f r)) (g := fun r => .ok (g r)) fun v _ _ h' => ok (hfg v h')
  revert hbind
  cases s.pop16 <;> cases t.pop16 <;> exact id

/-! ### The shared operations -/

section

variable (h : Alike s t)
include h

theorem aluRm8 (op : AluOp) (rm : RM8) {v v' : Byte} (hv : v = v') :
    OutcomesAlike (aluRm8 op rm v s) (aluRm8 op rm v' t) := by
  subst hv
  refine bindRead (h.read (·.readRM8 rm) fun _ => rfl) fun left => ?_
  have hres := aluCompute_agree h.flagsAgree op left v
  dsimp only
  rw [h.read (·.locate rm) fun _ => rfl]
  split
  · exact writeResult8 h _ hres
  · exact ok (h.withFlags hres.2)

theorem aluRm16 (op : AluOp) (rm : RM16) {v v' : Word} (hv : v = v') :
    OutcomesAlike (aluRm16 op rm v s) (aluRm16 op rm v' t) := by
  subst hv
  refine bindRead (h.read (·.readRM16 rm) fun _ => rfl) fun left => ?_
  have hres := aluCompute_agree h.flagsAgree op left v
  dsimp only
  rw [h.read (·.locate rm) fun _ => rfl]
  split
  · exact writeResult16 h _ hres
  · exact ok (h.withFlags hres.2)

theorem aluReg8 (op : AluOp) (r : Reg8) (v : Byte) : OutcomesAlike (aluReg8 op r v s) (aluReg8 op r v t) := by
  rw [Machine.aluReg8, Machine.aluReg8, h.read (·.reg8 r) fun _ => rfl]
  have hres := aluCompute_agree h.flagsAgree op (t.reg8 r) v
  split
  · exact writeResult8 h (.reg r) hres
  · exact ok (h.withFlags hres.2)

theorem aluReg16 (op : AluOp) (r : Reg16) (v : Word) :
    OutcomesAlike (aluReg16 op r v s) (aluReg16 op r v t) := by
  rw [Machine.aluReg16, Machine.aluReg16, h.read (·.reg16 r) fun _ => rfl]
  have hres := aluCompute_agree h.flagsAgree op (t.reg16 r) v
  split
  · exact writeResult16 h (.reg r) hres
  · exact ok (h.withFlags hres.2)

theorem aluReg8FromRm (op : AluOp) (r : Reg8) (rm : RM8) :
    OutcomesAlike (aluReg8FromRm op r rm s) (aluReg8FromRm op r rm t) :=
  bindRead (h.read (·.readRM8 rm) fun _ => rfl) fun v => aluReg8 h op r v

theorem aluReg16FromRm (op : AluOp) (r : Reg16) (rm : RM16) :
    OutcomesAlike (aluReg16FromRm op r rm s) (aluReg16FromRm op r rm t) :=
  bindRead (h.read (·.readRM16 rm) fun _ => rfl) fun v => aluReg16 h op r v

theorem incDecReg16 (op : IncDec) (r : Reg16) : OutcomesAlike (incDecReg16 op r s) (incDecReg16 op r t) := by
  rw [Machine.incDecReg16, Machine.incDecReg16, h.read (·.reg16 r) fun _ => rfl]
  exact writeResult16 h (.reg r) (incDecCompute_agree h.flagsAgree op _)

theorem incDecRm8 (op : IncDec) (rm : RM8) : OutcomesAlike (incDecRm8 op rm s) (incDecRm8 op rm t) := by
  refine bindRead (h.read (·.readRM8 rm) fun _ => rfl) fun v => ?_
  dsimp only
  rw [h.read (·.locate rm) fun _ => rfl]
  exact writeResult8 h _ (incDecCompute_agree h.flagsAgree op v)

theorem incDecRm16 (op : IncDec) (rm : RM16) : OutcomesAlike (incDecRm16 op rm s) (incDecRm16 op rm t) := by
  refine bindRead (h.read (·.readRM16 rm) fun _ => rfl) fun v => ?_
  dsimp only
  rw [h.read (·.locate rm) fun _ => rfl]
  exact writeResult16 h _ (incDecCompute_agree h.flagsAgree op v)

theorem shiftRm8 (op : ShiftOp) (rm : RM8) {n n' : Byte} (hn : n = n') :
    OutcomesAlike (shiftRm8 op rm n s) (shiftRm8 op rm n' t) := by
  subst hn
  unfold Machine.shiftRm8
  split
  · exact ok h
  · refine bindRead (h.read (·.readRM8 rm) fun _ => rfl) fun v => ?_
    dsimp only
    rw [h.read (·.locate rm) fun _ => rfl]
    exact writeResult8 h _ (shiftCompute_agree h.flagsAgree op v n)

theorem shiftRm16 (op : ShiftOp) (rm : RM16) {n n' : Byte} (hn : n = n') :
    OutcomesAlike (shiftRm16 op rm n s) (shiftRm16 op rm n' t) := by
  subst hn
  unfold Machine.shiftRm16
  split
  · exact ok h
  · refine bindRead (h.read (·.readRM16 rm) fun _ => rfl) fun v => ?_
    dsimp only
    rw [h.read (·.locate rm) fun _ => rfl]
    exact writeResult16 h _ (shiftCompute_agree h.flagsAgree op v n)

theorem moveToRm8 (rm : RM8) {v v' : Byte} (hv : v = v') :
    OutcomesAlike (moveToRm8 rm v s) (moveToRm8 rm v' t) := by
  subst hv
  rw [Machine.moveToRm8, Machine.moveToRm8, h.read (·.locate rm) fun _ => rfl]
  exact writeLoc8 h _ v

theorem moveToRm16 (rm : RM16) {v v' : Word} (hv : v = v') :
    OutcomesAlike (moveToRm16 rm v s) (moveToRm16 rm v' t) := by
  subst hv
  rw [Machine.moveToRm16, Machine.moveToRm16, h.read (·.locate rm) fun _ => rfl]
  exact writeLoc16 h _ v

theorem moveToReg8 (r : Reg8) (rm : RM8) : OutcomesAlike (moveToReg8 r rm s) (moveToReg8 r rm t) :=
  mapRead (h.read (·.readRM8 rm) fun _ => rfl) fun v => h.setReg8 r v

theorem moveToReg16 (r : Reg16) (rm : RM16) : OutcomesAlike (moveToReg16 r rm s) (moveToReg16 r rm t) :=
  mapRead (h.read (·.readRM16 rm) fun _ => rfl) fun v => h.setReg16 r v

theorem moveToSreg (r : SReg) (rm : RM16) : OutcomesAlike (moveToSreg r rm s) (moveToSreg r rm t) :=
  mapRead (h.read (·.readRM16 rm) fun _ => rfl) fun v => h.setSreg r v

theorem loadDirect8 (off : Word) : OutcomesAlike (loadDirect8 off s) (loadDirect8 off t) :=
  mapRead (h.read (fun u => u.memRead8 u.ds off) fun _ => rfl) fun v => h.setReg8 .al v

theorem loadDirect16 (off : Word) : OutcomesAlike (loadDirect16 off s) (loadDirect16 off t) :=
  mapRead (h.read (fun u => u.memRead16 u.ds off) fun _ => rfl) fun v => h.setReg16 .ax v

theorem storeDirect8 (off : Word) : OutcomesAlike (storeDirect8 off s) (storeDirect8 off t) := by
  rw [Machine.storeDirect8, Machine.storeDirect8, h.read State.ds fun _ => rfl,
    h.read (·.reg8 .al) fun _ => rfl]
  exact memWrite8 h _ off _

theorem storeDirect16 (off : Word) : OutcomesAlike (storeDirect16 off s) (storeDirect16 off t) := by
  rw [Machine.storeDirect16, Machine.storeDirect16, h.read State.ds fun _ => rfl,
    h.read (·.reg16 .ax) fun _ => rfl]
  exact memWrite16 h _ off _

theorem adjustAfterAddDecimal : OutcomesAlike (adjustAfterAddDecimal s) (adjustAfterAddDecimal t) := by
  rw [Machine.adjustAfterAddDecimal, Machine.adjustAfterAddDecimal, h.read (·.reg8 .al) fun _ => rfl,
    h.flag (f := .cf) nofun, h.flag (f := .af) nofun]
  exact ok (h.applyCorrection _)

theorem adjustAfterSubDecimal : OutcomesAlike (adjustAfterSubDecimal s) (adjustAfterSubDecimal t) := by
  rw [Machine.adjustAfterSubDecimal, Machine.adjustAfterSubDecimal, h.read (·.reg8 .al) fun _ => rfl,
    h.flag (f := .cf) nofun, h.flag (f := .af) nofun]
  exact ok (h.applyCorrection _)

theorem adjustAfterAddAscii : OutcomesAlike (adjustAfterAddAscii s) (adjustAfterAddAscii t) := by
  rw [Machine.adjustAfterAddAscii, Machine.adjustAfterAddAscii, h.read (·.reg8 .al) fun _ => rfl,
    h.read (·.reg8 .ah) fun _ => rfl, h.read State.cfg fun _ => rfl, h.flag (f := .af) nofun]
  exact ok ((h.applyCorrection _).setReg8 _ _)

theorem adjustAfterSubAscii : OutcomesAlike (adjustAfterSubAscii s) (adjustAfterSubAscii t) := by
  rw [Machine.adjustAfterSubAscii, Machine.adjustAfterSubAscii, h.read (·.reg8 .al) fun _ => rfl,
    h.read (·.reg8 .ah) fun _ => rfl, h.flag (f := .af) nofun]
  exact ok ((h.applyCorrection _).setReg8 _ _)

theorem splitByBase (base : Byte) : OutcomesAlike (splitByBase base s) (splitByBase base t) := by
  rw [Machine.splitByBase, Machine.splitByBase, h.read (·.reg8 .al) fun _ => rfl]
  split
  · exact error _
  · exact ok ((h.logBase base).putBaseResult _ _)

theorem foldByBase (base : Byte) : OutcomesAlike (foldByBase base s) (foldByBase base t) := by
  rw [Machine.foldByBase, Machine.foldByBase, h.read (·.reg8 .al) fun _ => rfl,
    h.read (·.reg8 .ah) fun _ => rfl]
  exact ok ((h.logBase base).putBaseResult _ _)

theorem copyElement8 : OutcomesAlike (copyElement8 s) (copyElement8 t) := by
  refine bindRead (h.read (fun u => u.memRead8 u.ds u.si) fun _ => rfl) fun v => ?_
  rw [h.read State.es fun _ => rfl, h.read State.di fun _ => rfl]
  exact map (memWrite8 h _ _ v) fun h' => (h'.advanceSi 1).advanceDi 1

theorem copyElement16 : OutcomesAlike (copyElement16 s) (copyElement16 t) := by
  refine bindRead (h.read (fun u => u.memRead16 u.ds u.si) fun _ => rfl) fun v => ?_
  rw [h.read State.es fun _ => rfl, h.read State.di fun _ => rfl]
  exact map (memWrite16 h _ _ v) fun h' => (h'.advanceSi 2).advanceDi 2

theorem compareElements8 : OutcomesAlike (compareElements8 s) (compareElements8 t) :=
  bindRead (h.read (fun u => u.memRead8 u.ds u.si) fun _ => rfl) fun a =>
    mapRead (h.read (fun u => u.memRead8 u.es u.di) fun _ => rfl) fun b =>
      ((h.withFlags (subFlags_agree h.flagsAgree a b false).2).advanceSi 1).advanceDi 1

theorem compareElements16 : OutcomesAlike (compareElements16 s) (compareElements16 t) :=
  bindRead (h.read (fun u => u.memRead16 u.ds u.si) fun _ => rfl) fun a =>
    mapRead (h.read (fun u => u.memRead16 u.es u.di) fun _ => rfl) fun b =>
      ((h.withFlags (subFlags_agree h.flagsAgree a b false).2).advanceSi 2).advanceDi 2

theorem storeElement8 : OutcomesAlike (storeElement8 s) (storeElement8 t) := by
  rw [Machine.storeElement8, Machine.storeElement8, h.read State.es fun _ => rfl,
    h.read State.di fun _ => rfl, h.read (·.reg8 .al) fun _ => rfl]
  exact map (memWrite8 h _ _ _) fun h' => h'.advanceDi 1

theorem storeElement16 : OutcomesAlike (storeElement16 s) (storeElement16 t) := by
  rw [Machine.storeElement16, Machine.storeElement16, h.read State.es fun _ => rfl,
    h.read State.di fun _ => rfl, h.read (·.reg16 .ax) fun _ => rfl]
  exact map (memWrite16 h _ _ _) fun h' => h'.advanceDi 2

theorem loadElement8 : OutcomesAlike (loadElement8 s) (loadElement8 t) :=
  mapRead (h.read (fun u => u.memRead8 u.ds u.si) fun _ => rfl) fun v => (h.setReg8 .al v).advanceSi 1

theorem loadElement16 : OutcomesAlike (loadElement16 s) (loadElement16 t) :=
  mapRead (h.read (fun u => u.memRead16 u.ds u.si) fun _ => rfl) fun v => (h.setReg16 .ax v).advanceSi 2

theorem scanElement8 : OutcomesAlike (scanElement8 s) (scanElement8 t) := by
  refine mapRead (h.read (fun u => u.memRead8 u.es u.di) fun _ => rfl) fun b => ?_
  rw [h.read (·.reg8 .al) fun _ => rfl]
  exact (h.withFlags (subFlags_agree h.flagsAgree _ b false).2).advanceDi 1

theorem scanElement16 : OutcomesAlike (scanElement16 s) (scanElement16 t) := by
  refine mapRead (h.read (fun u => u.memRead16 u.es u.di) fun _ => rfl) fun b => ?_
  rw [h.read (·.reg16 .ax) fun _ => rfl]
  exact (h.withFlags (subFlags_agree h.flagsAgree _ b false).2).advanceDi 2

theorem pushValue {v v' : Word} (hv : v = v') :
    OutcomesAlike (pushValue v s) (pushValue v' t) := by
  subst hv
  exact push16 h v

theorem pushReg16 (r : Reg16) : OutcomesAlike (pushReg16 r s) (pushReg16 r t) := by
  rw [Machine.pushReg16, Machine.pushReg16, h.read (·.pushedReg r) fun _ => rfl]
  exact push16 h _

theorem pushRm (rm : RM16) : OutcomesAlike (pushRm rm s) (pushRm rm t) := by
  cases rm with
  | reg r => exact pushReg16 h r
  | mem m => exact bindRead (h.read (·.readRM16 (.mem m)) fun _ => rfl) fun v => push16 h v

theorem popReg16 (r : Reg16) : OutcomesAlike (popReg16 r s) (popReg16 r t) :=
  popMap h fun v _ _ h' => h'.setReg16 r v

theorem popSreg (r : SReg) : OutcomesAlike (popSreg r s) (popSreg r t) :=
  popMap h fun v _ _ h' => h'.setSreg r v

theorem popRm (rm : RM16) : OutcomesAlike (popRm rm s) (popRm rm t) := by
  refine popBind h fun v _ _ h' => ?_
  rw [h.read (·.locate rm) fun _ => rfl]
  exact writeLoc16 h' _ v

theorem callNearBy (d : Word) : OutcomesAlike (callNearBy d s) (callNearBy d t) := by
  rw [Machine.callNearBy, Machine.callNearBy, h.read State.ip fun _ => rfl]
  exact map (push16 h _) fun h' => h'.branch d

theorem callFarTo (off seg : Word) : OutcomesAlike (callFarTo off seg s) (callFarTo off seg t) := by
  rw [Machine.callFarTo, Machine.callFarTo, h.read State.cs fun _ => rfl, h.read State.ip fun _ => rfl]
  exact bind (push16 h _) fun h' => map (push16 h' _) fun h'' => (h''.setSreg .cs seg).withIp off

theorem returnNear (n : Word) : OutcomesAlike (returnNear n s) (returnNear n t) := by
  refine popMap h fun off _ _ h' => ?_
  dsimp only
  rw [h'.read State.sp fun _ => rfl]
  exact (h'.withIp off).setReg16 _ _

theorem returnFar (n : Word) : OutcomesAlike (returnFar n s) (returnFar n t) := by
  refine popBind h fun off _ _ h' => popMap h' fun seg _ _ h'' => ?_
  dsimp only
  rw [h''.read State.sp fun _ => rfl]
  exact ((h''.setSreg .cs seg).withIp off).setReg16 _ _

theorem jumpIf (c : Cond) (rel : Byte) : OutcomesAlike (jumpIf c rel s) (jumpIf c rel t) := by
  rw [Machine.jumpIf, Machine.jumpIf, h.flagsAgree.cond_holds c]
  split
  · exact ok (h.branch _)
  · exact ok h

theorem jumpIfCxZero (rel : Byte) : OutcomesAlike (jumpIfCxZero rel s) (jumpIfCxZero rel t) := by
  rw [Machine.jumpIfCxZero, Machine.jumpIfCxZero, h.read State.cx fun _ => rfl]
  split
  · exact ok (h.branch _)
  · exact ok h

theorem loopOn (k : LoopKind) (rel : Byte) : OutcomesAlike (loopOn k rel s) (loopOn k rel t) := by
  have hcount := h.countDown
  rw [Machine.loopOn, Machine.loopOn, hcount.read State.cx fun _ => rfl, hcount.flagsAgree.loop_holds k]
  split
  · exact ok (hcount.branch _)
  · exact ok hcount

/-- R365: the string is read from memory alone. -/
theorem stringOutput_eq (n : Nat) (off : Word) : s.stringOutput n off = t.stringOutput n off := by
  induction n generalizing off with
  | zero => rfl
  | succ n ih =>
    rw [State.stringOutput, State.stringOutput, h.read (fun u => u.memRead8 u.ds off) fun _ => rfl,
      h.read State.cfg fun _ => rfl, ih]

theorem printString : OutcomesAlike (printString s) (printString t) := by
  rw [Machine.printString, Machine.printString, h.read State.cfg fun _ => rfl, h.read State.dx fun _ => rfl]
  refine mapRead (stringOutput_eq h _ _) fun (out, tooLong) => ?_
  cases tooLong with
  | false => exact h.emitConout out
  | true => exact (h.emitConout out).emitDiag _

theorem dosService : OutcomesAlike (dosService s) (dosService t) := by
  rw [Machine.dosService, Machine.dosService, h.read (·.reg8 .ah) fun _ => rfl,
    h.read (·.reg8 .al) fun _ => rfl, h.read (·.reg8 .dl) fun _ => rfl]
  split_ifs
  · exact ok (h.raiseTerminate _)
  · exact printString h
  · exact ok (h.emitConout _)
  · exact ok (h.emitDiag _)

theorem bridge (n : Byte) : OutcomesAlike (bridge n s) (bridge n t) := by
  unfold Machine.bridge
  split
  · exact dosService h
  · exact ok (h.emitDiag _)

end

/-! ### Every instruction, and one step -/

/-- R31, R33, R34: instruction by instruction, two states that are alike have outcomes that are alike. An operand
that an instruction passes on as a value is read alike of both. -/
theorem exec_alike {s t : State} (h : Alike s t) (i : Instr) : observed (exec i s) = observed (exec i t) := by
  cases i with
  | addRm8R8 | orRm8R8 | adcRm8R8 | sbbRm8R8 | andRm8R8 | subRm8R8 | xorRm8R8 | cmpRm8R8 =>
    exact finish (aluRm8 h _ _ (h.read (·.reg8 _) fun _ => rfl))
  | addRm8Imm8 | orRm8Imm8 | adcRm8Imm8 | sbbRm8Imm8 | andRm8Imm8 | subRm8Imm8 | xorRm8Imm8
    | cmpRm8Imm8 => exact finish (aluRm8 h _ _ rfl)
  | addRm16R16 | orRm16R16 | adcRm16R16 | sbbRm16R16 | andRm16R16 | subRm16R16 | xorRm16R16
    | cmpRm16R16 => exact finish (aluRm16 h _ _ (h.read (·.reg16 _) fun _ => rfl))
  | addRm16Imm16 | orRm16Imm16 | adcRm16Imm16 | sbbRm16Imm16 | andRm16Imm16 | subRm16Imm16
    | xorRm16Imm16 | cmpRm16Imm16 | addRm16Simm8 | orRm16Simm8 | adcRm16Simm8 | sbbRm16Simm8
    | andRm16Simm8 | subRm16Simm8 | xorRm16Simm8 | cmpRm16Simm8 => exact finish (aluRm16 h _ _ rfl)
  | addR8Rm8 | orR8Rm8 | adcR8Rm8 | sbbR8Rm8 | andR8Rm8 | subR8Rm8 | xorR8Rm8 | cmpR8Rm8 =>
    exact finish (aluReg8FromRm h _ _ _)
  | addR16Rm16 | orR16Rm16 | adcR16Rm16 | sbbR16Rm16 | andR16Rm16 | subR16Rm16 | xorR16Rm16
    | cmpR16Rm16 => exact finish (aluReg16FromRm h _ _ _)
  | addAlImm8 | orAlImm8 | adcAlImm8 | sbbAlImm8 | andAlImm8 | subAlImm8 | xorAlImm8 | cmpAlImm8 =>
    exact finish (aluReg8 h _ _ _)
  | addAxImm16 | orAxImm16 | adcAxImm16 | sbbAxImm16 | andAxImm16 | subAxImm16 | xorAxImm16
    | cmpAxImm16 => exact finish (aluReg16 h _ _ _)
  | incAx | incCx | incDx | incBx | incSp | incBp | incSi | incDi | decAx | decCx | decDx | decBx
    | decSp | decBp | decSi | decDi => exact finish (incDecReg16 h _ _)
  | incRm8 | decRm8 => exact finish (incDecRm8 h _ _)
  | incRm16 | decRm16 => exact finish (incDecRm16 h _ _)
  | rolRm8Cnt | rorRm8Cnt | rclRm8Cnt | rcrRm8Cnt | shlRm8Cnt | shrRm8Cnt | salRm8Cnt | sarRm8Cnt
    | rolRm8One | rorRm8One | rclRm8One | rcrRm8One | shlRm8One | shrRm8One | salRm8One | sarRm8One =>
    exact finish (shiftRm8 h _ _ rfl)
  | rolRm8Cl | rorRm8Cl | rclRm8Cl | rcrRm8Cl | shlRm8Cl | shrRm8Cl | salRm8Cl | sarRm8Cl =>
    exact finish (shiftRm8 h _ _ (h.read (·.reg8 .cl) fun _ => rfl))
  | rolRm16Cnt | rorRm16Cnt | rclRm16Cnt | rcrRm16Cnt | shlRm16Cnt | shrRm16Cnt | salRm16Cnt
    | sarRm16Cnt | rolRm16One | rorRm16One | rclRm16One | rcrRm16One | shlRm16One | shrRm16One
    | salRm16One | sarRm16One => exact finish (shiftRm16 h _ _ rfl)
  | rolRm16Cl | rorRm16Cl | rclRm16Cl | rcrRm16Cl | shlRm16Cl | shrRm16Cl | salRm16Cl | sarRm16Cl =>
    exact finish (shiftRm16 h _ _ (h.read (·.reg8 .cl) fun _ => rfl))
  | movRm8R8 => exact finish (moveToRm8 h _ (h.read (·.reg8 _) fun _ => rfl))
  | movRm8Imm8 => exact finish (moveToRm8 h _ rfl)
  | movRm16R16 => exact finish (moveToRm16 h _ (h.read (·.reg16 _) fun _ => rfl))
  | movRm16Es | movRm16Cs | movRm16Ss | movRm16Ds =>
    exact finish (moveToRm16 h _ (h.read (·.sreg _) fun _ => rfl))
  | movRm16Imm16 => exact finish (moveToRm16 h _ rfl)
  | movR8Rm8 => exact finish (moveToReg8 h _ _)
  | movR16Rm16 => exact finish (moveToReg16 h _ _)
  | movEsRm16 | movSsRm16 | movDsRm16 => exact finish (moveToSreg h _ _)
  | movAlMoffs => exact finish (loadDirect8 h _)
  | movAxMoffs => exact finish (loadDirect16 h _)
  | movMoffsAl => exact finish (storeDirect8 h _)
  | movMoffsAx => exact finish (storeDirect16 h _)
  | movAlImm8 | movClImm8 | movDlImm8 | movBlImm8 | movAhImm8 | movChImm8 | movDhImm8 | movBhImm8 =>
    exact finish (ok (h.setReg8 _ _))
  | movAxImm16 | movCxImm16 | movDxImm16 | movBxImm16 | movSpImm16 | movBpImm16 | movSiImm16
    | movDiImm16 => exact finish (ok (h.setReg16 _ _))
  | daa => exact finish (adjustAfterAddDecimal h)
  | das => exact finish (adjustAfterSubDecimal h)
  | aaa => exact finish (adjustAfterAddAscii h)
  | aas => exact finish (adjustAfterSubAscii h)
  | aam => exact finish (splitByBase h _)
  | aad => exact finish (foldByBase h _)
  | movsb => exact finish (copyElement8 h)
  | movsw => exact finish (copyElement16 h)
  | cmpsb => exact finish (compareElements8 h)
  | cmpsw => exact finish (compareElements16 h)
  | stosb => exact finish (storeElement8 h)
  | stosw => exact finish (storeElement16 h)
  | lodsb => exact finish (loadElement8 h)
  | lodsw => exact finish (loadElement16 h)
  | scasb => exact finish (scanElement8 h)
  | scasw => exact finish (scanElement16 h)
  | pushEs | pushCs | pushSs | pushDs => exact finish (pushValue h (h.read (·.sreg _) fun _ => rfl))
  | pushAx | pushCx | pushDx | pushBx | pushSp | pushBp | pushSi | pushDi => exact finish (pushReg16 h _)
  | pushRm16 => exact finish (pushRm h _)
  | popAx | popCx | popDx | popBx | popSp | popBp | popSi | popDi => exact finish (popReg16 h _)
  | popEs | popSs | popDs => exact finish (popSreg h _)
  | popRm16 => exact finish (popRm h _)
  | jmpNear | jmpShort => exact finish (ok (h.branch _))
  | jmpFar off seg => exact finish (ok ((h.setSreg .cs seg).withIp off))
  | callNear => exact finish (callNearBy h _)
  | callFar => exact finish (callFarTo h _ _)
  | retPop | ret => exact finish (returnNear h _)
  | retfPop | retf => exact finish (returnFar h _)
  | jo | jno | jb | jae | je | jne | jbe | ja | js | jns | jp | jnp | jl | jge | jle | jg =>
    exact finish (jumpIf h _ _)
  | jcxz => exact finish (jumpIfCxZero h _)
  | loopne | loope | loop => exact finish (loopOn h _ _)
  | int => exact finish (bridge h _)
  | hlt => exact congrArg Host.Outcome.next (h.raiseTerminate 0)
  | _ => exact congrArg Host.Outcome.next (h.raiseUnsupported _ _)

end OutcomesAlike

/-- R68: the bytes fetched are those of memory at CS:IP. -/
theorem Alike.fetchFrom {s t : State} (h : Alike s t) (n : Nat) (ip : Word) :
    s.fetchFrom n ip = t.fetchFrom n ip := by
  induction n generalizing ip with
  | zero => rfl
  | succ n ih => rw [State.fetchFrom, State.fetchFrom, h.read (fun u => u.memRead8 u.cs ip) fun _ => rfl, ih]

theorem Alike.advance {s t : State} (h : Alike s t) (n : Nat) : Alike (s.advance n) (t.advance n) :=
  h.update (·.advance n) fun _ => rfl

/-- R34: the countdown of INTDELAY cannot be observed. -/
theorem observed_endStep (r : Result) : observed (endStep r) = observed r := by
  cases r <;> rfl

theorem runBytes_alike {s t : State} (h : Alike s t) (bytes : List Byte) :
    observed (runBytes bytes s) = observed (runBytes bytes t) := by
  unfold runBytes
  split
  · rfl
  · rw [observed_endStep, observed_endStep]
    exact OutcomesAlike.exec_alike (h.advance _) _

theorem stepRunning_alike {s t : State} (h : Alike s t) :
    observed (stepRunning s) = observed (stepRunning t) := by
  have hfetch : s.fetchWindow = t.fetchWindow := by
    rw [State.fetchWindow, State.fetchWindow, h.fetchFrom, h.read State.ip fun _ => rfl]
  unfold stepRunning
  rw [hfetch]
  split
  · rfl
  · exact runBytes_alike h _

end Sys2Proof.Machine

namespace Sys2Proof

open Sys2Proof.Machine

/-- Settles O54. Whether a step is taken, and the bytes it fetches, are read of what the two states have in common
(`Alike.read`); by `OutcomesAlike.exec_alike` the instruction then leaves two states that are alike again. -/
theorem hiddenStateDoesNotLeak : Obligations.HiddenStateDoesNotLeak := by
  intro s t h
  have hstatus : s.status = t.status := Alike.read h State.status fun _ => rfl
  unfold step
  rw [hstatus]
  split
  · exact stepRunning_alike h
  · rfl
  · rfl

end Sys2Proof
end

section
/-! PROOF. What no step breaks: every shared operation keeps it (Laws/Keeps.lean), so every instruction does, and so
does the step around it. -/

namespace Sys2Proof.Machine

/-- An outcome whose state, if there is one, keeps what no instruction breaks. -/
def OutcomeKeeps (s : State) : Result → Prop
  | .next t => Keeps s t
  | .fault _ | .refused _ => True

theorem outcomeKeeps_finish {s : State} {x : Except Fault State} (h : ∀ {t}, x = .ok t → Keeps s t) :
    OutcomeKeeps s (finish x) := by
  cases x with
  | ok t => exact h rfl
  | error f => trivial

/-- The instructions keep what the shared operations keep. -/
theorem exec_keeps (i : Instr) (s : State) : OutcomeKeeps s (exec i s) :=
  exec_of_operations (P := OutcomeKeeps s)
    (hAluRm8 := fun _ _ _ => outcomeKeeps_finish aluRm8_keeps)
    (hAluRm16 := fun _ _ _ => outcomeKeeps_finish aluRm16_keeps)
    (hAluReg8 := fun _ _ _ => outcomeKeeps_finish aluReg8_keeps)
    (hAluReg16 := fun _ _ _ => outcomeKeeps_finish aluReg16_keeps)
    (hAluReg8FromRm := fun _ _ _ => outcomeKeeps_finish aluReg8FromRm_keeps)
    (hAluReg16FromRm := fun _ _ _ => outcomeKeeps_finish aluReg16FromRm_keeps)
    (hIncDecReg16 := fun _ _ => outcomeKeeps_finish incDecReg16_keeps)
    (hIncDecRm8 := fun _ _ => outcomeKeeps_finish incDecRm8_keeps)
    (hIncDecRm16 := fun _ _ => outcomeKeeps_finish incDecRm16_keeps)
    (hMoveToRm8 := fun _ _ => outcomeKeeps_finish (Keeps.refl s).writeLoc8)
    (hMoveToRm16 := fun _ _ => outcomeKeeps_finish (Keeps.refl s).writeLoc16)
    (hMoveToReg8 := fun _ _ => outcomeKeeps_finish moveToReg8_keeps)
    (hMoveToReg16 := fun _ _ => outcomeKeeps_finish moveToReg16_keeps)
    (hMoveImm8 := fun r v => (Keeps.refl s).setReg8 r v)
    (hMoveImm16 := fun r v => (Keeps.refl s).setReg16 r v)
    (hMoveToSreg := fun _ _ _ => outcomeKeeps_finish moveToSreg_keeps)
    (hLoadDirect8 := fun _ => outcomeKeeps_finish loadDirect8_keeps)
    (hLoadDirect16 := fun _ => outcomeKeeps_finish loadDirect16_keeps)
    (hStoreDirect8 := fun _ => outcomeKeeps_finish (Keeps.refl s).memWrite8)
    (hStoreDirect16 := fun _ => outcomeKeeps_finish (Keeps.refl s).memWrite16)
    (hDaa := outcomeKeeps_finish adjustAfterAddDecimal_keeps)
    (hDas := outcomeKeeps_finish adjustAfterSubDecimal_keeps)
    (hAaa := outcomeKeeps_finish adjustAfterAddAscii_keeps)
    (hAas := outcomeKeeps_finish adjustAfterSubAscii_keeps)
    (hAam := fun _ => outcomeKeeps_finish splitByBase_keeps)
    (hAad := fun _ => outcomeKeeps_finish foldByBase_keeps)
    (hShiftRm8 := fun _ _ _ => outcomeKeeps_finish shiftRm8_keeps)
    (hShiftRm16 := fun _ _ _ => outcomeKeeps_finish shiftRm16_keeps)
    (hCopy8 := outcomeKeeps_finish copyElement8_keeps)
    (hCopy16 := outcomeKeeps_finish copyElement16_keeps)
    (hCompare8 := outcomeKeeps_finish compareElements8_keeps)
    (hCompare16 := outcomeKeeps_finish compareElements16_keeps)
    (hStore8 := outcomeKeeps_finish storeElement8_keeps)
    (hStore16 := outcomeKeeps_finish storeElement16_keeps)
    (hLoad8 := outcomeKeeps_finish loadElement8_keeps)
    (hLoad16 := outcomeKeeps_finish loadElement16_keeps)
    (hScan8 := outcomeKeeps_finish scanElement8_keeps)
    (hScan16 := outcomeKeeps_finish scanElement16_keeps)
    (hPushValue := fun _ => outcomeKeeps_finish (Keeps.refl s).push16)
    (hPushReg16 := fun _ => outcomeKeeps_finish (Keeps.refl s).push16)
    (hPushRm := fun _ => outcomeKeeps_finish pushRm_keeps)
    (hPopReg16 := fun _ => outcomeKeeps_finish popReg16_keeps)
    (hPopSreg := fun _ _ => outcomeKeeps_finish popSreg_keeps)
    (hPopRm := fun _ => outcomeKeeps_finish popRm_keeps)
    (hJumpBy := fun _ => (Keeps.refl s).withIp _)
    (hJumpFarTo := fun off seg => ((Keeps.refl s).setSreg .cs seg).withIp off)
    (hCallNearBy := fun _ => outcomeKeeps_finish callNearBy_keeps)
    (hCallFarTo := fun _ _ => outcomeKeeps_finish callFarTo_keeps)
    (hReturnNear := fun _ => outcomeKeeps_finish returnNear_keeps)
    (hReturnFar := fun _ => outcomeKeeps_finish returnFar_keeps)
    (hJumpIf := fun _ _ => outcomeKeeps_finish jumpIf_keeps)
    (hJumpIfCxZero := fun _ => outcomeKeeps_finish jumpIfCxZero_keeps)
    (hLoopOn := fun _ _ => outcomeKeeps_finish loopOn_keeps)
    (hBridge := fun _ => outcomeKeeps_finish bridge_keeps)
    (hHalt := (Keeps.refl s).withStatus _)
    (hUnsupported := fun op n => (Keeps.refl s).raiseUnsupported op n) i

/-- R342: a step that gives a state is an instruction executed past its bytes, and the countdown of INTDELAY. -/
theorem step_eq_next {s t : State} (h : step s = .next t) :
    ∃ i n u, exec i (s.advance n) = .next u ∧ t = u.endInstruction := by
  obtain h' | ⟨f, -, h'⟩ | ⟨i, n, h'⟩ := step_cases s
  · cases h'.symm.trans h
  · cases h'.symm.trans h
  · rw [h'] at h
    cases hexec : exec i (s.advance n) with
    | next u =>
      rw [hexec] at h
      cases h
      exact ⟨i, n, u, hexec, rfl⟩
    | fault f => rw [hexec] at h; cases h
    | refused r => rw [hexec] at h; cases h

/-- Every step keeps what no instruction breaks. -/
theorem step_keeps {s t : State} (h : step s = .next t) : Keeps s t := by
  obtain ⟨i, n, u, hexec, rfl⟩ := step_eq_next h
  have hkeeps := exec_keeps i (s.advance n)
  rw [hexec] at hkeeps
  exact (((Keeps.refl s).withIp _).trans hkeeps).endInstruction

end Sys2Proof.Machine

namespace Sys2Proof

open Sys2Proof.Machine

/-- Settles O52, by `step_keeps`: MEM stays in canonical form and INTDELAY at most 2. -/
theorem stepKeepsInvariant : Obligations.StepKeepsInvariant := by
  intro s t hs h
  simp only [State.inv, Bool.and_eq_true, decide_eq_true_eq] at hs ⊢
  obtain ⟨hwf, hdelay⟩ := hs
  exact ⟨(step_keeps h).wf hwf, (step_keeps h).delay hdelay⟩

/-- Settles O51, by evaluation. -/
theorem invariantAtReset : Obligations.InvariantAtReset := rfl

/-- Settles O53, by `step_keeps`: the flags of R32 are the bits 0, 2, 4, 6, 7 and 11 of FLAGS. -/
theorem stepKeepsSystemFlags : Obligations.StepKeepsSystemFlags := fun _ _ h => (step_keeps h).flags

/-- Settles O55, by `step_keeps`. -/
theorem outputsOnlyGrow : Obligations.OutputsOnlyGrow := fun _ _ h =>
  ⟨(step_keeps h).conout, (step_keeps h).diag, (step_keeps h).cfg⟩

end Sys2Proof
end

section
/-! PROOF. What each instruction leaves as it was. Each shared operation stays within a footprint, update by update
(Laws/Frame.lean); an operation that is no transfer of control leaves IP too. By the instructions' footprints follow
who may write the segment registers and who may end a run. -/

namespace Sys2Proof.Machine

/-! ### Footprints that leave IP -/

/-- Everything outside the footprint is as it was, and so is IP. -/
structure Footprint.CoversIp (fp : Footprint) (s t : State) : Prop extends fp.Covers s t where
  ip : t.ip = s.ip

/-- R21: a byte register whose word register is listed. -/
theorem Footprint.Covers.setReg8_of_parent {fp : Footprint} {s t : State} (h : fp.Covers s t) {r : Reg8}
    (hr : r.parent ∈ fp.words) (v : Byte) : fp.Covers s (t.setReg8 r v) := by
  unfold State.setReg8
  split
  · exact h.setReg16 hr _
  · exact h.setReg16 hr _

namespace Footprint.CoversIp

variable {fp : Footprint} {s t : State}

protected theorem refl (fp : Footprint) (s : State) : fp.CoversIp s s := ⟨Covers.refl fp s, rfl⟩

theorem setReg8 (h : fp.CoversIp s t) {r : Reg8} (hr : r ∈ fp.bytes) (v : Byte) :
    fp.CoversIp s (t.setReg8 r v) :=
  ⟨h.toCovers.setReg8 hr v, (State.setReg8_ip t r v).trans h.ip⟩

theorem setReg8_of_parent (h : fp.CoversIp s t) {r : Reg8} (hr : r.parent ∈ fp.words) (v : Byte) :
    fp.CoversIp s (t.setReg8 r v) :=
  ⟨h.toCovers.setReg8_of_parent hr v, (State.setReg8_ip t r v).trans h.ip⟩

theorem setReg16 (h : fp.CoversIp s t) {r : Reg16} (hr : r ∈ fp.words) (v : Word) :
    fp.CoversIp s (t.setReg16 r v) :=
  ⟨h.toCovers.setReg16 hr v, (State.setReg16_ip t r v).trans h.ip⟩

theorem setSreg (h : fp.CoversIp s t) {r : SReg} (hr : r ∈ fp.sregs) (hd : r = .ss → fp.delay = true)
    (v : Word) : fp.CoversIp s (t.setSreg r v) :=
  ⟨h.toCovers.setSreg hr hd v, (State.setSreg_ip t r v).trans h.ip⟩

theorem withFlags (h : fp.CoversIp s t) {fl : Word}
    (hf : ∀ k, k ∉ fp.flags.map Flag.bit → fl.getLsbD k = t.flags.getLsbD k) :
    fp.CoversIp s (t.withFlags fl) :=
  ⟨h.toCovers.withFlags hf, h.ip⟩

theorem emitDiag (h : fp.CoversIp s t) (hd : fp.diag = true) (e : DiagEvent) :
    fp.CoversIp s (t.emitDiag e) :=
  ⟨h.toCovers.emitDiag hd e, h.ip⟩

theorem emitConout (h : fp.CoversIp s t) (hc : fp.conout = true) (bytes : List Byte) :
    fp.CoversIp s (t.emitConout bytes) :=
  ⟨h.toCovers.emitConout hc bytes, h.ip⟩

theorem drew (h : fp.CoversIp s t) (hd : fp.draws = true) (n : Nat) : fp.CoversIp s (t.drew n) :=
  ⟨h.toCovers.drew hd n, h.ip⟩

theorem raiseTerminate (h : fp.CoversIp s t) (hs : fp.status = true) (code : Byte) :
    fp.CoversIp s (raiseTerminate code t) :=
  ⟨h.toCovers.withStatus hs _, h.ip⟩

theorem memWrite8 (h : fp.CoversIp s t) {u : State} {seg off : Word} {v : Byte}
    (hw : t.memWrite8 seg off v = .ok u) (hc : s.phys seg off ∈ fp.cells) : fp.CoversIp s u := by
  refine ⟨h.toCovers.memWrite8 hw hc, ?_⟩
  obtain ⟨-, rfl⟩ := State.memWrite8_eq_ok.mp hw
  exact h.ip

theorem memWrite16 (h : fp.CoversIp s t) {u : State} {seg off v : Word}
    (hw : t.memWrite16 seg off v = .ok u) (hc : s.phys seg off ∈ fp.cells)
    (hc' : s.phys seg (off + 1) ∈ fp.cells) : fp.CoversIp s u := by
  refine ⟨h.toCovers.memWrite16 hw hc hc', ?_⟩
  obtain ⟨-, -, rfl⟩ := State.memWrite16_eq_ok.mp hw
  exact h.ip

/-- A write to the r/m8 operand, whose place and flags are the footprint. -/
theorem writeRm8 {rm : RM8} {flags : List Flag} (h : (footRm8 rm flags s).CoversIp s t) {u : State}
    {v : Byte} (hw : t.writeLoc8 (s.locate rm) v = .ok u) : (footRm8 rm flags s).CoversIp s u := by
  cases rm with
  | reg r => cases hw; exact h.setReg8 List.mem_cons_self v
  | mem m => exact h.memWrite8 hw List.mem_cons_self

/-- A write to the r/m16 operand. -/
theorem writeRm16 {rm : RM16} {flags : List Flag} (h : (footRm16 rm flags s).CoversIp s t) {u : State}
    {v : Word} (hw : t.writeLoc16 (s.locate rm) v = .ok u) : (footRm16 rm flags s).CoversIp s u := by
  cases rm with
  | reg r => cases hw; exact h.setReg16 List.mem_cons_self v
  | mem m => exact h.memWrite16 hw List.mem_cons_self (List.mem_cons_of_mem _ List.mem_cons_self)

/-- R270: the word pushed at the SP the push leaves. -/
theorem push16 (h : fp.CoversIp s t) {u : State} {v : Word} (hu : t.push16 v = .ok u)
    (hsp : .sp ∈ fp.words) (hss : t.ss = s.ss) (hcells : pushCells s (t.sp - 2) ⊆ fp.cells) :
    fp.CoversIp s u := by
  rw [State.push16, hss] at hu
  exact (h.setReg16 hsp _).memWrite16 hu (hcells List.mem_cons_self)
    (hcells (List.mem_cons_of_mem _ List.mem_cons_self))

theorem pop16 (h : fp.CoversIp s t) {r : Word × State} (hr : t.pop16 = .ok r) (hsp : .sp ∈ fp.words) :
    fp.CoversIp s r.2 := by
  obtain ⟨-, -, rfl⟩ := State.pop16_eq_ok.mp hr
  exact h.setReg16 hsp _

theorem advanceSi (h : fp.CoversIp s t) (hr : .si ∈ fp.words) (k : Word) : fp.CoversIp s (t.advanceSi k) :=
  h.setReg16 hr _

theorem advanceDi (h : fp.CoversIp s t) (hr : .di ∈ fp.words) (k : Word) : fp.CoversIp s (t.advanceDi k) :=
  h.setReg16 hr _

end Footprint.CoversIp

/-! ### The flags each kind of instruction writes -/

/-- R225: a rotate writes no bit but CF and OF. -/
theorem getLsbD_shiftCompute {w : Nat} (op : ShiftOp) (v : BitVec w) (count : Byte) (fl : Word) (k : Nat)
    (h : k ∉ op.flagsWritten.map Flag.bit) : (op.compute v count fl).2.getLsbD k = fl.getLsbD k := by
  cases hshift : op.isShift with
  | true =>
    rw [ShiftOp.flagsWritten, if_pos hshift] at h
    exact op.getLsbD_compute v count fl k h
  | false =>
    simp only [ShiftOp.flagsWritten, hshift, Bool.false_eq_true, if_false, List.map_cons, List.map_nil,
      List.mem_cons, List.not_mem_nil, or_false, not_or] at h
    obtain ⟨hcf, hof⟩ := h
    simp only [ShiftOp.compute, hshift, Bool.false_eq_true, if_false, getLsbD_putFlag, hcf, hof]

theorem getLsbD_bcdFlags (al : Byte) (c a o : Bool) (fl : Word) (k : Nat)
    (h : k ∉ arithFlags.map Flag.bit) : (setSZP al (putCarries fl c a o)).getLsbD k = fl.getLsbD k := by
  simp only [arithFlags, List.map_cons, List.map_nil, List.mem_cons, List.not_mem_nil, or_false, not_or] at h
  simp only [getLsbD_setSZP, getLsbD_putCarries, h, if_false]

/-! ### Writes of a result and its flags -/

@[simp] theorem footRm8_flags (rm : RM8) (flags : List Flag) (s : State) : (footRm8 rm flags s).flags = flags := by
  cases rm <;> rfl

@[simp] theorem footRm16_flags (rm : RM16) (flags : List Flag) (s : State) :
    (footRm16 rm flags s).flags = flags := by
  cases rm <;> rfl

section

variable {flags : List Flag} {s u : State}

theorem writeResult8_covers {rm : RM8} {x : Byte × Word}
    (hfl : ∀ k, k ∉ flags.map Flag.bit → x.2.getLsbD k = s.flags.getLsbD k)
    (hw : (s.withFlags x.2).writeLoc8 (s.locate rm) x.1 = .ok u) : (footRm8 rm flags s).CoversIp s u :=
  ((Footprint.CoversIp.refl _ s).withFlags (by simpa using hfl)).writeRm8 hw

theorem writeResult16_covers {rm : RM16} {x : Word × Word}
    (hfl : ∀ k, k ∉ flags.map Flag.bit → x.2.getLsbD k = s.flags.getLsbD k)
    (hw : (s.withFlags x.2).writeLoc16 (s.locate rm) x.1 = .ok u) : (footRm16 rm flags s).CoversIp s u :=
  ((Footprint.CoversIp.refl _ s).withFlags (by simpa using hfl)).writeRm16 hw

end

/-- R166: where the instruction writes its result, its footprint is its destination and the flags. -/
theorem aluFootRm8_of_writes {op : AluOp} (hop : op.writes = true) (rm : RM8) (s : State) :
    op.footRm8 rm s = footRm8 rm arithFlags s := by
  unfold AluOp.footRm8
  cases rm <;> rw [hop] <;> rfl

theorem aluFootRm16_of_writes {op : AluOp} (hop : op.writes = true) (rm : RM16) (s : State) :
    op.footRm16 rm s = footRm16 rm arithFlags s := by
  unfold AluOp.footRm16
  cases rm <;> rw [hop] <;> rfl

/-- R177: CMP writes the flags alone. -/
theorem aluFootRm8_of_not_writes {op : AluOp} (hop : ¬ op.writes = true) (rm : RM8) (s : State) :
    op.footRm8 rm s = { flags := arithFlags } := by
  unfold AluOp.footRm8
  rw [Bool.eq_false_of_not_eq_true hop]

theorem aluFootRm16_of_not_writes {op : AluOp} (hop : ¬ op.writes = true) (rm : RM16) (s : State) :
    op.footRm16 rm s = { flags := arithFlags } := by
  unfold AluOp.footRm16
  rw [Bool.eq_false_of_not_eq_true hop]

/-! ### The shared operations -/

open Footprint

section

variable {s t : State}

/-- R160: the flags of a two-operand instruction, on the state. -/
theorem aluFlags_covers (op : AluOp) {w : Nat} (a b : BitVec w) (s : State) :
    ({ flags := arithFlags } : Footprint).CoversIp s (s.withFlags (op.compute a b s.flags).2) :=
  (CoversIp.refl _ s).withFlags (op.getLsbD_compute a b s.flags)

theorem aluRm8_covers {op : AluOp} {rm : RM8} {v : Byte} (h : aluRm8 op rm v s = .ok t) :
    (op.footRm8 rm s).CoversIp s t := by
  obtain ⟨left, -, h⟩ := except_bind_eq_ok.mp h
  dsimp only at h
  split at h
  next hop =>
    rw [aluFootRm8_of_writes hop]
    exact writeResult8_covers (op.getLsbD_compute left v s.flags) h
  next hop =>
    cases h
    rw [aluFootRm8_of_not_writes hop]
    exact aluFlags_covers op left v s

theorem aluRm16_covers {op : AluOp} {rm : RM16} {v : Word} (h : aluRm16 op rm v s = .ok t) :
    (op.footRm16 rm s).CoversIp s t := by
  obtain ⟨left, -, h⟩ := except_bind_eq_ok.mp h
  dsimp only at h
  split at h
  next hop =>
    rw [aluFootRm16_of_writes hop]
    exact writeResult16_covers (op.getLsbD_compute left v s.flags) h
  next hop =>
    cases h
    rw [aluFootRm16_of_not_writes hop]
    exact aluFlags_covers op left v s

/-- A register destination is an r/m8 operand that can be read. -/
theorem aluReg8_eq_aluRm8 (op : AluOp) (r : Reg8) (v : Byte) (s : State) :
    aluReg8 op r v s = aluRm8 op (.reg r) v s := by
  rw [aluReg8, aluRm8]
  exact apply_ite Except.ok _ _ _

theorem aluReg16_eq_aluRm16 (op : AluOp) (r : Reg16) (v : Word) (s : State) :
    aluReg16 op r v s = aluRm16 op (.reg r) v s := by
  rw [aluReg16, aluRm16]
  exact apply_ite Except.ok _ _ _

theorem aluReg8_covers {op : AluOp} {r : Reg8} {v : Byte} (h : aluReg8 op r v s = .ok t) :
    (op.footRm8 (.reg r) s).CoversIp s t :=
  aluRm8_covers ((aluReg8_eq_aluRm8 op r v s).symm.trans h)

theorem aluReg16_covers {op : AluOp} {r : Reg16} {v : Word} (h : aluReg16 op r v s = .ok t) :
    (op.footRm16 (.reg r) s).CoversIp s t :=
  aluRm16_covers ((aluReg16_eq_aluRm16 op r v s).symm.trans h)

theorem aluReg8FromRm_covers {op : AluOp} {r : Reg8} {rm : RM8} (h : aluReg8FromRm op r rm s = .ok t) :
    (op.footRm8 (.reg r) s).CoversIp s t := by
  obtain ⟨right, -, h⟩ := except_bind_eq_ok.mp h
  exact aluReg8_covers h

theorem aluReg16FromRm_covers {op : AluOp} {r : Reg16} {rm : RM16} (h : aluReg16FromRm op r rm s = .ok t) :
    (op.footRm16 (.reg r) s).CoversIp s t := by
  obtain ⟨right, -, h⟩ := except_bind_eq_ok.mp h
  exact aluReg16_covers h

theorem incDecReg16_covers {op : IncDec} {r : Reg16} (h : incDecReg16 op r s = .ok t) :
    ({ words := [r], flags := countFlags } : Footprint).CoversIp s t :=
  writeResult16_covers (rm := .reg r) (op.getLsbD_compute (s.reg16 r) s.flags) h

theorem incDecRm8_covers {op : IncDec} {rm : RM8} (h : incDecRm8 op rm s = .ok t) :
    (footRm8 rm countFlags s).CoversIp s t := by
  obtain ⟨v, -, h⟩ := except_bind_eq_ok.mp h
  exact writeResult8_covers (op.getLsbD_compute v s.flags) h

theorem incDecRm16_covers {op : IncDec} {rm : RM16} (h : incDecRm16 op rm s = .ok t) :
    (footRm16 rm countFlags s).CoversIp s t := by
  obtain ⟨v, -, h⟩ := except_bind_eq_ok.mp h
  exact writeResult16_covers (op.getLsbD_compute v s.flags) h

theorem shiftRm8_covers {op : ShiftOp} {rm : RM8} {n : Byte} (h : shiftRm8 op rm n s = .ok t) :
    (op.footRm8 rm n s).CoversIp s t := by
  unfold shiftRm8 at h
  unfold ShiftOp.footRm8
  split at h
  next hn =>
    cases h
    rw [if_pos hn]
    exact CoversIp.refl _ s
  next hn =>
    obtain ⟨v, -, h⟩ := except_bind_eq_ok.mp h
    rw [if_neg hn]
    exact writeResult8_covers (getLsbD_shiftCompute op v n s.flags) h

theorem shiftRm16_covers {op : ShiftOp} {rm : RM16} {n : Byte} (h : shiftRm16 op rm n s = .ok t) :
    (op.footRm16 rm n s).CoversIp s t := by
  unfold shiftRm16 at h
  unfold ShiftOp.footRm16
  split at h
  next hn =>
    cases h
    rw [if_pos hn]
    exact CoversIp.refl _ s
  next hn =>
    obtain ⟨v, -, h⟩ := except_bind_eq_ok.mp h
    rw [if_neg hn]
    exact writeResult16_covers (getLsbD_shiftCompute op v n s.flags) h

theorem moveToRm8_covers {rm : RM8} {v : Byte} (h : moveToRm8 rm v s = .ok t) :
    (footRm8 rm [] s).CoversIp s t :=
  (CoversIp.refl _ s).writeRm8 h

theorem moveToRm16_covers {rm : RM16} {v : Word} (h : moveToRm16 rm v s = .ok t) :
    (footRm16 rm [] s).CoversIp s t :=
  (CoversIp.refl _ s).writeRm16 h

theorem moveToReg8_covers {r : Reg8} {rm : RM8} (h : moveToReg8 r rm s = .ok t) :
    ({ bytes := [r] } : Footprint).CoversIp s t := by
  obtain ⟨v, -, rfl⟩ := except_map_eq_ok.mp h
  exact (CoversIp.refl _ s).setReg8 List.mem_cons_self v

theorem moveToReg16_covers {r : Reg16} {rm : RM16} (h : moveToReg16 r rm s = .ok t) :
    ({ words := [r] } : Footprint).CoversIp s t := by
  obtain ⟨v, -, rfl⟩ := except_map_eq_ok.mp h
  exact (CoversIp.refl _ s).setReg16 List.mem_cons_self v

theorem moveImm8_covers {r : Reg8} {v : Byte} (h : moveImm8 r v s = .ok t) :
    ({ bytes := [r] } : Footprint).CoversIp s t := by
  cases h
  exact (CoversIp.refl _ s).setReg8 List.mem_cons_self v

theorem moveImm16_covers {r : Reg16} {v : Word} (h : moveImm16 r v s = .ok t) :
    ({ words := [r] } : Footprint).CoversIp s t := by
  cases h
  exact (CoversIp.refl _ s).setReg16 List.mem_cons_self v

/-- R146: the one write that also sets INTDELAY is that of SS. -/
theorem moveToSreg_covers {r : SReg} {rm : RM16} {delay : Bool} (h : moveToSreg r rm s = .ok t)
    (hd : r = .ss → delay = true) : ({ sregs := [r], delay := delay } : Footprint).CoversIp s t := by
  obtain ⟨v, -, rfl⟩ := except_map_eq_ok.mp h
  exact (CoversIp.refl _ s).setSreg List.mem_cons_self hd v

theorem loadDirect8_covers {off : Word} (h : loadDirect8 off s = .ok t) :
    ({ bytes := [.al] } : Footprint).CoversIp s t := by
  obtain ⟨v, -, rfl⟩ := except_map_eq_ok.mp h
  exact (CoversIp.refl _ s).setReg8 List.mem_cons_self v

theorem loadDirect16_covers {off : Word} (h : loadDirect16 off s = .ok t) :
    ({ words := [.ax] } : Footprint).CoversIp s t := by
  obtain ⟨v, -, rfl⟩ := except_map_eq_ok.mp h
  exact (CoversIp.refl _ s).setReg16 List.mem_cons_self v

theorem storeDirect8_covers {off : Word} (h : storeDirect8 off s = .ok t) :
    ({ cells := [s.phys s.ds off] } : Footprint).CoversIp s t :=
  (CoversIp.refl _ s).memWrite8 h (by simp)

theorem storeDirect16_covers {off : Word} (h : storeDirect16 off s = .ok t) :
    ({ cells := [s.phys s.ds off, s.phys s.ds (off + 1)] } : Footprint).CoversIp s t :=
  (CoversIp.refl _ s).memWrite16 h (by simp) (by simp)

/-- R200: what the four corrections have in common. -/
theorem applyCorrection_covers {fp : Footprint} (c : Correction) (s : State) (hal : .al ∈ fp.bytes)
    (hfl : fp.flags = arithFlags) (hdr : fp.draws = true) : fp.CoversIp s (applyCorrection c s) := by
  refine ((CoversIp.withFlags (.refl fp s) fun k hk => ?_).setReg8 hal _).drew hdr 1
  rw [hfl] at hk
  exact getLsbD_bcdFlags _ _ _ _ _ k hk

theorem adjustAfterAddDecimal_covers (h : adjustAfterAddDecimal s = .ok t) :
    ({ bytes := [.al], flags := arithFlags, draws := true } : Footprint).CoversIp s t := by
  cases h
  exact applyCorrection_covers _ s (by simp) rfl rfl

theorem adjustAfterSubDecimal_covers (h : adjustAfterSubDecimal s = .ok t) :
    ({ bytes := [.al], flags := arithFlags, draws := true } : Footprint).CoversIp s t := by
  cases h
  exact applyCorrection_covers _ s (by simp) rfl rfl

theorem adjustAfterAddAscii_covers (h : adjustAfterAddAscii s = .ok t) :
    ({ bytes := [.al, .ah], flags := arithFlags, draws := true } : Footprint).CoversIp s t := by
  cases h
  exact (applyCorrection_covers _ s (by simp) rfl rfl).setReg8 (by simp) _

theorem adjustAfterSubAscii_covers (h : adjustAfterSubAscii s = .ok t) :
    ({ bytes := [.al, .ah], flags := arithFlags, draws := true } : Footprint).CoversIp s t := by
  cases h
  exact (applyCorrection_covers _ s (by simp) rfl rfl).setReg8 (by simp) _

/-- R205, R206: both halves of AX, the flags and three free values, after the base was logged. -/
theorem putBaseResult_covers (base ah al : Byte) (s : State) :
    ({ words := [.ax], flags := arithFlags, diag := true, draws := true } : Footprint).CoversIp s
      (putBaseResult ah al (logBase base s)) := by
  refine CoversIp.drew (.setReg8_of_parent (.setReg8_of_parent (.withFlags ?_ ?_) ?_ _) ?_ _) rfl 3
  · unfold logBase
    split
    · exact .refl _ s
    · exact (CoversIp.refl _ s).emitDiag rfl _
  · exact getLsbD_bcdFlags _ _ _ _ _
  · exact List.mem_cons_self
  · exact List.mem_cons_self

theorem splitByBase_covers {base : Byte} (h : splitByBase base s = .ok t) :
    ({ words := [.ax], flags := arithFlags, diag := true, draws := true } : Footprint).CoversIp s t := by
  unfold splitByBase at h
  split at h
  · cases h
  · cases h
    exact putBaseResult_covers base _ _ s

theorem foldByBase_covers {base : Byte} (h : foldByBase base s = .ok t) :
    ({ words := [.ax], flags := arithFlags, diag := true, draws := true } : Footprint).CoversIp s t := by
  cases h
  exact putBaseResult_covers base _ _ s

theorem copyElement8_covers (h : copyElement8 s = .ok t) :
    ({ words := [.si, .di], cells := [s.phys s.es s.di] } : Footprint).CoversIp s t := by
  obtain ⟨v, -, h⟩ := except_bind_eq_ok.mp h
  obtain ⟨u, hu, rfl⟩ := except_map_eq_ok.mp h
  exact (((CoversIp.refl _ s).memWrite8 hu (by simp)).advanceSi (by simp) 1).advanceDi (by simp) 1

theorem copyElement16_covers (h : copyElement16 s = .ok t) :
    ({ words := [.si, .di], cells := [s.phys s.es s.di, s.phys s.es (s.di + 1)] } : Footprint).CoversIp s t := by
  obtain ⟨v, -, h⟩ := except_bind_eq_ok.mp h
  obtain ⟨u, hu, rfl⟩ := except_map_eq_ok.mp h
  exact (((CoversIp.refl _ s).memWrite16 hu (by simp) (by simp)).advanceSi (by simp) 2).advanceDi (by simp) 2

/-- R253, R256: the flags of CMPS and SCAS, on the state. -/
theorem subFlags_covers {fp : Footprint} {w : Nat} (a b : BitVec w) (s : State)
    (hfl : fp.flags = arithFlags) : fp.CoversIp s (s.withFlags (subFlags a b false s.flags).2) := by
  refine CoversIp.withFlags (.refl fp s) fun k hk => ?_
  rw [hfl] at hk
  exact getLsbD_subFlags a b false s.flags k hk

theorem compareElements8_covers (h : compareElements8 s = .ok t) :
    ({ words := [.si, .di], flags := arithFlags } : Footprint).CoversIp s t := by
  obtain ⟨a, -, h⟩ := except_bind_eq_ok.mp h
  obtain ⟨b, -, rfl⟩ := except_map_eq_ok.mp h
  exact ((subFlags_covers a b s rfl).advanceSi (by simp) 1).advanceDi (by simp) 1

theorem compareElements16_covers (h : compareElements16 s = .ok t) :
    ({ words := [.si, .di], flags := arithFlags } : Footprint).CoversIp s t := by
  obtain ⟨a, -, h⟩ := except_bind_eq_ok.mp h
  obtain ⟨b, -, rfl⟩ := except_map_eq_ok.mp h
  exact ((subFlags_covers a b s rfl).advanceSi (by simp) 2).advanceDi (by simp) 2

theorem storeElement8_covers (h : storeElement8 s = .ok t) :
    ({ words := [.di], cells := [s.phys s.es s.di] } : Footprint).CoversIp s t := by
  obtain ⟨u, hu, rfl⟩ := except_map_eq_ok.mp h
  exact ((CoversIp.refl _ s).memWrite8 hu (by simp)).advanceDi (by simp) 1

theorem storeElement16_covers (h : storeElement16 s = .ok t) :
    ({ words := [.di], cells := [s.phys s.es s.di, s.phys s.es (s.di + 1)] } : Footprint).CoversIp s t := by
  obtain ⟨u, hu, rfl⟩ := except_map_eq_ok.mp h
  exact ((CoversIp.refl _ s).memWrite16 hu (by simp) (by simp)).advanceDi (by simp) 2

theorem loadElement8_covers (h : loadElement8 s = .ok t) :
    ({ bytes := [.al], words := [.si] } : Footprint).CoversIp s t := by
  obtain ⟨v, -, rfl⟩ := except_map_eq_ok.mp h
  exact ((CoversIp.refl _ s).setReg8 (by simp) v).advanceSi (by simp) 1

theorem loadElement16_covers (h : loadElement16 s = .ok t) :
    ({ words := [.ax, .si] } : Footprint).CoversIp s t := by
  obtain ⟨v, -, rfl⟩ := except_map_eq_ok.mp h
  exact ((CoversIp.refl _ s).setReg16 (by simp) v).advanceSi (by simp) 2

theorem scanElement8_covers (h : scanElement8 s = .ok t) :
    ({ words := [.di], flags := arithFlags } : Footprint).CoversIp s t := by
  obtain ⟨b, -, rfl⟩ := except_map_eq_ok.mp h
  exact (subFlags_covers _ b s rfl).advanceDi (by simp) 1

theorem scanElement16_covers (h : scanElement16 s = .ok t) :
    ({ words := [.di], flags := arithFlags } : Footprint).CoversIp s t := by
  obtain ⟨b, -, rfl⟩ := except_map_eq_ok.mp h
  exact (subFlags_covers _ b s rfl).advanceDi (by simp) 2

theorem push16_covers {v : Word} (h : s.push16 v = .ok t) :
    ({ words := [.sp], cells := pushCells s (s.sp - 2) } : Footprint).CoversIp s t :=
  (CoversIp.refl _ s).push16 h (by simp) rfl (List.Subset.refl _)

theorem pushRm_covers {rm : RM16} (h : pushRm rm s = .ok t) :
    ({ words := [.sp], cells := pushCells s (s.sp - 2) } : Footprint).CoversIp s t := by
  cases rm with
  | reg r => exact push16_covers h
  | mem m =>
    obtain ⟨v, -, h⟩ := except_bind_eq_ok.mp h
    exact push16_covers h

theorem popReg16_covers {r : Reg16} (h : popReg16 r s = .ok t) :
    ({ words := [r, .sp] } : Footprint).CoversIp s t := by
  obtain ⟨x, hx, rfl⟩ := except_map_eq_ok.mp h
  exact ((CoversIp.refl _ s).pop16 hx (by simp)).setReg16 (by simp) _

/-- R277: the one POP that also sets INTDELAY is that of SS. -/
theorem popSreg_covers {r : SReg} {delay : Bool} (h : popSreg r s = .ok t) (hd : r = .ss → delay = true) :
    ({ words := [.sp], sregs := [r], delay := delay } : Footprint).CoversIp s t := by
  obtain ⟨x, hx, rfl⟩ := except_map_eq_ok.mp h
  exact ((CoversIp.refl _ s).pop16 hx (by simp)).setSreg (by simp) hd _

theorem popRm_covers {rm : RM16} (h : popRm rm s = .ok t) :
    ({ footRm16 rm [] s with words := .sp :: (footRm16 rm [] s).words } : Footprint).CoversIp s t := by
  obtain ⟨x, hx, h⟩ := except_bind_eq_ok.mp h
  have hpop := (CoversIp.refl { footRm16 rm [] s with words := .sp :: (footRm16 rm [] s).words } s).pop16 hx
    List.mem_cons_self
  cases rm with
  | reg r =>
    cases h
    exact hpop.setReg16 (by simp [footRm16]) _
  | mem m =>
    refine hpop.memWrite16 h ?_ ?_
    · exact List.mem_cons_self
    · exact List.mem_cons_of_mem _ List.mem_cons_self

/-! #### Transfers of control -/

theorem callNearBy_covers {d : Word} (h : callNearBy d s = .ok t) :
    ({ words := [.sp], cells := pushCells s (s.sp - 2) } : Footprint).Covers s t := by
  obtain ⟨u, hu, rfl⟩ := except_map_eq_ok.mp h
  exact (push16_covers hu).toCovers.withIp _

/-- R296: the second word is pushed two bytes below the first. -/
theorem callFarTo_covers {off seg : Word} (h : callFarTo off seg s = .ok t) :
    ({ words := [.sp], sregs := [.cs], cells := pushCells s (s.sp - 2) ++ pushCells s (s.sp - 4) } :
      Footprint).Covers s t := by
  obtain ⟨u, hu, h⟩ := except_bind_eq_ok.mp h
  obtain ⟨v, hv, rfl⟩ := except_map_eq_ok.mp h
  have hfirst :
      ({ words := [.sp], sregs := [.cs], cells := pushCells s (s.sp - 2) ++ pushCells s (s.sp - 4) } :
        Footprint).CoversIp s u :=
    (CoversIp.refl _ s).push16 hu (by simp) rfl (by simp)
  obtain ⟨-, -, rfl⟩ := State.push16_eq_ok.mp hu
  have hcells : pushCells s (s.sp - 2 - 2) ⊆ pushCells s (s.sp - 2) ++ pushCells s (s.sp - 4) := by
    rw [show s.sp - 2 - 2 = s.sp - 4 by bv_omega]
    exact List.subset_append_right _ _
  have hsecond := hfirst.push16 hv (by simp) rfl hcells
  exact (hsecond.toCovers.setSreg (r := .cs) (by simp) nofun seg).withIp off

theorem returnNear_covers {n : Word} (h : returnNear n s = .ok t) :
    ({ words := [.sp] } : Footprint).Covers s t := by
  obtain ⟨x, hx, rfl⟩ := except_map_eq_ok.mp h
  exact (((CoversIp.refl _ s).pop16 hx (by simp)).toCovers.withIp _).setReg16 (by simp) _

theorem returnFar_covers {n : Word} (h : returnFar n s = .ok t) :
    ({ words := [.sp], sregs := [.cs] } : Footprint).Covers s t := by
  obtain ⟨x, hx, h⟩ := except_bind_eq_ok.mp h
  obtain ⟨y, hy, rfl⟩ := except_map_eq_ok.mp h
  have hpops := ((CoversIp.refl { words := [.sp], sregs := [.cs] } s).pop16 hx (by simp)).pop16 hy (by simp)
  exact ((hpops.toCovers.setSreg (r := .cs) (by simp) nofun _).withIp _).setReg16 (by simp) _

theorem jumpBy_covers {d : Word} (h : jumpBy d s = .ok t) : ({} : Footprint).Covers s t := by
  cases h
  exact (Covers.refl _ s).withIp _

theorem jumpFarTo_covers {off seg : Word} (h : jumpFarTo off seg s = .ok t) :
    ({ sregs := [.cs] } : Footprint).Covers s t := by
  cases h
  exact ((Covers.refl _ s).setSreg (r := .cs) (by simp) nofun seg).withIp off

theorem jumpIf_covers {c : Cond} {rel : Byte} (h : jumpIf c rel s = .ok t) :
    ({} : Footprint).Covers s t := by
  cases h
  split
  · exact (Covers.refl _ s).withIp _
  · exact Covers.refl _ s

theorem jumpIfCxZero_covers {rel : Byte} (h : jumpIfCxZero rel s = .ok t) :
    ({} : Footprint).Covers s t := by
  cases h
  split
  · exact (Covers.refl _ s).withIp _
  · exact Covers.refl _ s

/-- R324: the flags of DEC where the parameter says so, else none. -/
theorem countDown_covers (s : State) :
    ({ words := [.cx], flags := if s.cfg.loopWritesFlags then countFlags else [] } : Footprint).CoversIp s
      s.countDown := by
  refine CoversIp.setReg16 (.withFlags (.refl _ s) ?_) (by simp) _
  cases s.cfg.loopWritesFlags with
  | true => exact IncDec.getLsbD_compute .dec s.cx s.flags
  | false => exact fun _ _ => rfl

theorem loopOn_covers {k : LoopKind} {rel : Byte} (h : loopOn k rel s = .ok t) :
    ({ words := [.cx], flags := if s.cfg.loopWritesFlags then countFlags else [] } : Footprint).Covers s t := by
  unfold loopOn at h
  dsimp only at h
  split at h
  · cases h
    exact (countDown_covers s).toCovers.withIp _
  · cases h
    exact (countDown_covers s).toCovers

theorem raiseUnsupported_covers (op : Byte) (n : Nat) (s : State) :
    ({ status := true, diag := true, draws := true } : Footprint).Covers s (raiseUnsupported op n s) :=
  ((((Covers.refl _ s).withIp _).emitDiag rfl _).drew rfl 1).withStatus rfl _

/-! #### Interrupt services -/

theorem printString_covers {fp : Footprint} (hc : fp.conout = true) (hd : fp.diag = true)
    (h : printString s = .ok t) : fp.CoversIp s t := by
  obtain ⟨⟨out, tooLong⟩, -, rfl⟩ := except_map_eq_ok.mp h
  have hout := (CoversIp.refl fp s).emitConout hc out
  cases tooLong with
  | false => exact hout
  | true => exact hout.emitDiag hd _

/-- R360 to R367: of the services, the exit function alone writes STATUS. -/
theorem bridge_covers {fp : Footprint} {n : Byte} (hc : fp.conout = true) (hd : fp.diag = true)
    (hs : n = dosVector → s.reg8 .ah = fnExit → fp.status = true) (h : bridge n s = .ok t) :
    fp.CoversIp s t := by
  have hrefl := CoversIp.refl fp s
  unfold bridge dosService at h
  split_ifs at h with hn hexit hstring hchar
  · cases h
    exact hrefl.raiseTerminate (hs hn hexit) _
  · exact printString_covers hc hd h
  · cases h
    exact hrefl.emitConout hc _
  · cases h
    exact hrefl.emitDiag hd _
  · cases h
    exact hrefl.emitDiag hd _

end

/-! ### Every instruction -/

/-- What an instruction may change: its footprint and, where it transfers control, IP. -/
structure ExecFrame (i : Instr) (s t : State) : Prop where
  covers : (i.footprint s).Covers s t
  ip : i.family ∉ [.jump, .call, .ret, .branch, .loop, .unrecognized] → t.ip = s.ip

namespace ExecFrame

variable {i : Instr} {s t : State}

theorem ofCoversIp (h : (i.footprint s).CoversIp s t) : ExecFrame i s t := ⟨h.toCovers, fun _ => h.ip⟩

theorem ofTransfer (h : (i.footprint s).Covers s t)
    (hi : i.family ∈ [.jump, .call, .ret, .branch, .loop, .unrecognized]) : ExecFrame i s t :=
  ⟨h, fun hn => absurd hi hn⟩

end ExecFrame

open ExecFrame in
/-- R26, R28, R32 and the instruction rules: every instruction stays within its footprint. -/
theorem exec_frame {i : Instr} {s t : State} (h : exec i s = .next t) : ExecFrame i s t := by
  cases i with
  | addRm8R8 | orRm8R8 | adcRm8R8 | sbbRm8R8 | andRm8R8 | subRm8R8 | xorRm8R8 | cmpRm8R8
    | addRm8Imm8 | orRm8Imm8 | adcRm8Imm8 | sbbRm8Imm8 | andRm8Imm8 | subRm8Imm8 | xorRm8Imm8
    | cmpRm8Imm8 => exact ofCoversIp (aluRm8_covers (finish_eq_next.mp h))
  | addRm16R16 | orRm16R16 | adcRm16R16 | sbbRm16R16 | andRm16R16 | subRm16R16 | xorRm16R16
    | cmpRm16R16 | addRm16Imm16 | orRm16Imm16 | adcRm16Imm16 | sbbRm16Imm16 | andRm16Imm16
    | subRm16Imm16 | xorRm16Imm16 | cmpRm16Imm16 | addRm16Simm8 | orRm16Simm8 | adcRm16Simm8
    | sbbRm16Simm8 | andRm16Simm8 | subRm16Simm8 | xorRm16Simm8 | cmpRm16Simm8 =>
    exact ofCoversIp (aluRm16_covers (finish_eq_next.mp h))
  | addR8Rm8 | orR8Rm8 | adcR8Rm8 | sbbR8Rm8 | andR8Rm8 | subR8Rm8 | xorR8Rm8 | cmpR8Rm8 =>
    exact ofCoversIp (aluReg8FromRm_covers (finish_eq_next.mp h))
  | addR16Rm16 | orR16Rm16 | adcR16Rm16 | sbbR16Rm16 | andR16Rm16 | subR16Rm16 | xorR16Rm16
    | cmpR16Rm16 => exact ofCoversIp (aluReg16FromRm_covers (finish_eq_next.mp h))
  | addAlImm8 | orAlImm8 | adcAlImm8 | sbbAlImm8 | andAlImm8 | subAlImm8 | xorAlImm8 | cmpAlImm8 =>
    exact ofCoversIp (aluReg8_covers (finish_eq_next.mp h))
  | addAxImm16 | orAxImm16 | adcAxImm16 | sbbAxImm16 | andAxImm16 | subAxImm16 | xorAxImm16
    | cmpAxImm16 => exact ofCoversIp (aluReg16_covers (finish_eq_next.mp h))
  | incAx | incCx | incDx | incBx | incSp | incBp | incSi | incDi | decAx | decCx | decDx | decBx
    | decSp | decBp | decSi | decDi => exact ofCoversIp (incDecReg16_covers (finish_eq_next.mp h))
  | incRm8 | decRm8 => exact ofCoversIp (incDecRm8_covers (finish_eq_next.mp h))
  | incRm16 | decRm16 => exact ofCoversIp (incDecRm16_covers (finish_eq_next.mp h))
  | rolRm8Cnt | rorRm8Cnt | rclRm8Cnt | rcrRm8Cnt | shlRm8Cnt | shrRm8Cnt | salRm8Cnt | sarRm8Cnt
    | rolRm8One | rorRm8One | rclRm8One | rcrRm8One | shlRm8One | shrRm8One | salRm8One | sarRm8One
    | rolRm8Cl | rorRm8Cl | rclRm8Cl | rcrRm8Cl | shlRm8Cl | shrRm8Cl | salRm8Cl | sarRm8Cl =>
    exact ofCoversIp (shiftRm8_covers (finish_eq_next.mp h))
  | rolRm16Cnt | rorRm16Cnt | rclRm16Cnt | rcrRm16Cnt | shlRm16Cnt | shrRm16Cnt | salRm16Cnt
    | sarRm16Cnt | rolRm16One | rorRm16One | rclRm16One | rcrRm16One | shlRm16One | shrRm16One
    | salRm16One | sarRm16One | rolRm16Cl | rorRm16Cl | rclRm16Cl | rcrRm16Cl | shlRm16Cl
    | shrRm16Cl | salRm16Cl | sarRm16Cl => exact ofCoversIp (shiftRm16_covers (finish_eq_next.mp h))
  | movRm8R8 | movRm8Imm8 => exact ofCoversIp (moveToRm8_covers (finish_eq_next.mp h))
  | movRm16R16 | movRm16Es | movRm16Cs | movRm16Ss | movRm16Ds | movRm16Imm16 =>
    exact ofCoversIp (moveToRm16_covers (finish_eq_next.mp h))
  | movR8Rm8 => exact ofCoversIp (moveToReg8_covers (finish_eq_next.mp h))
  | movR16Rm16 => exact ofCoversIp (moveToReg16_covers (finish_eq_next.mp h))
  | movEsRm16 | movDsRm16 => exact ofCoversIp (moveToSreg_covers (finish_eq_next.mp h) nofun)
  | movSsRm16 => exact ofCoversIp (moveToSreg_covers (finish_eq_next.mp h) fun _ => rfl)
  | movAlMoffs => exact ofCoversIp (loadDirect8_covers (finish_eq_next.mp h))
  | movAxMoffs => exact ofCoversIp (loadDirect16_covers (finish_eq_next.mp h))
  | movMoffsAl => exact ofCoversIp (storeDirect8_covers (finish_eq_next.mp h))
  | movMoffsAx => exact ofCoversIp (storeDirect16_covers (finish_eq_next.mp h))
  | movAlImm8 | movClImm8 | movDlImm8 | movBlImm8 | movAhImm8 | movChImm8 | movDhImm8 | movBhImm8 =>
    exact ofCoversIp (moveImm8_covers (finish_eq_next.mp h))
  | movAxImm16 | movCxImm16 | movDxImm16 | movBxImm16 | movSpImm16 | movBpImm16 | movSiImm16
    | movDiImm16 => exact ofCoversIp (moveImm16_covers (finish_eq_next.mp h))
  | daa => exact ofCoversIp (adjustAfterAddDecimal_covers (finish_eq_next.mp h))
  | das => exact ofCoversIp (adjustAfterSubDecimal_covers (finish_eq_next.mp h))
  | aaa => exact ofCoversIp (adjustAfterAddAscii_covers (finish_eq_next.mp h))
  | aas => exact ofCoversIp (adjustAfterSubAscii_covers (finish_eq_next.mp h))
  | aam => exact ofCoversIp (splitByBase_covers (finish_eq_next.mp h))
  | aad => exact ofCoversIp (foldByBase_covers (finish_eq_next.mp h))
  | movsb => exact ofCoversIp (copyElement8_covers (finish_eq_next.mp h))
  | movsw => exact ofCoversIp (copyElement16_covers (finish_eq_next.mp h))
  | cmpsb => exact ofCoversIp (compareElements8_covers (finish_eq_next.mp h))
  | cmpsw => exact ofCoversIp (compareElements16_covers (finish_eq_next.mp h))
  | stosb => exact ofCoversIp (storeElement8_covers (finish_eq_next.mp h))
  | stosw => exact ofCoversIp (storeElement16_covers (finish_eq_next.mp h))
  | lodsb => exact ofCoversIp (loadElement8_covers (finish_eq_next.mp h))
  | lodsw => exact ofCoversIp (loadElement16_covers (finish_eq_next.mp h))
  | scasb => exact ofCoversIp (scanElement8_covers (finish_eq_next.mp h))
  | scasw => exact ofCoversIp (scanElement16_covers (finish_eq_next.mp h))
  | pushEs | pushCs | pushSs | pushDs | pushAx | pushCx | pushDx | pushBx | pushSp | pushBp | pushSi
    | pushDi => exact ofCoversIp (push16_covers (finish_eq_next.mp h))
  | pushRm16 => exact ofCoversIp (pushRm_covers (finish_eq_next.mp h))
  | popAx | popCx | popDx | popBx | popSp | popBp | popSi | popDi =>
    exact ofCoversIp (popReg16_covers (finish_eq_next.mp h))
  | popEs | popDs => exact ofCoversIp (popSreg_covers (finish_eq_next.mp h) nofun)
  | popSs => exact ofCoversIp (popSreg_covers (finish_eq_next.mp h) fun _ => rfl)
  | popRm16 => exact ofCoversIp (popRm_covers (finish_eq_next.mp h))
  | int => exact ofCoversIp (bridge_covers rfl rfl (fun _ _ => rfl) (finish_eq_next.mp h))
  | hlt =>
    cases h
    exact ofCoversIp ((CoversIp.refl _ s).raiseTerminate rfl 0)
  | jmpNear | jmpShort => exact ofTransfer (jumpBy_covers (finish_eq_next.mp h)) (by simp [Instr.family])
  | jmpFar => exact ofTransfer (jumpFarTo_covers (finish_eq_next.mp h)) (by simp [Instr.family])
  | callNear => exact ofTransfer (callNearBy_covers (finish_eq_next.mp h)) (by simp [Instr.family])
  | callFar => exact ofTransfer (callFarTo_covers (finish_eq_next.mp h)) (by simp [Instr.family])
  | retPop | ret => exact ofTransfer (returnNear_covers (finish_eq_next.mp h)) (by simp [Instr.family])
  | retfPop | retf => exact ofTransfer (returnFar_covers (finish_eq_next.mp h)) (by simp [Instr.family])
  | jo | jno | jb | jae | je | jne | jbe | ja | js | jns | jp | jnp | jl | jge | jle | jg =>
    exact ofTransfer (jumpIf_covers (finish_eq_next.mp h)) (by simp [Instr.family])
  | jcxz => exact ofTransfer (jumpIfCxZero_covers (finish_eq_next.mp h)) (by simp [Instr.family])
  | loopne | loope | loop => exact ofTransfer (loopOn_covers (finish_eq_next.mp h)) (by simp [Instr.family])
  | _ =>
    cases h
    exact ofTransfer (raiseUnsupported_covers _ _ s) (by simp [Instr.family])

/-! ### Which footprints hold a segment register or STATUS -/

/-- R290: the instructions whose rule writes CS. -/
def IsFarTransfer (i : Instr) : Prop :=
  ∃ off seg n, i = .jmpFar off seg ∨ i = .callFar off seg ∨ i = .retf ∨ i = .retfPop n

/-- What a footprint of an instruction may hold of the segment registers and of STATUS. -/
structure FootprintScope (i : Instr) (fp : Footprint) : Prop where
  sregs : ∀ r ∈ fp.sregs, r = .cs ∧ IsFarTransfer i ∨ r ≠ .cs ∧ (i.family = .mov ∨ i.family = .pop)
  status : fp.status = true → i = .hlt ∨ i.family = .unrecognized ∨ ∃ n, i = .int n

namespace FootprintScope

variable {i : Instr} {fp : Footprint}

/-- A footprint that holds neither. -/
theorem ofNone (h : fp.sregs = [] ∧ fp.status = false) : FootprintScope i fp := by
  obtain ⟨hsregs, hstatus⟩ := h
  constructor
  · intro r hr
    rw [hsregs] at hr
    cases hr
  · intro hs
    cases hs.symm.trans hstatus

theorem ofSreg {r : SReg} (h : fp.sregs = [r] ∧ fp.status = false)
    (hr : r = .cs ∧ IsFarTransfer i ∨ r ≠ .cs ∧ (i.family = .mov ∨ i.family = .pop)) :
    FootprintScope i fp := by
  obtain ⟨hsregs, hstatus⟩ := h
  constructor
  · intro q hq
    rw [hsregs, List.mem_singleton] at hq
    subst hq
    exact hr
  · intro hs
    cases hs.symm.trans hstatus

theorem ofStatus (h : fp.sregs = []) (hi : i = .hlt ∨ i.family = .unrecognized ∨ ∃ n, i = .int n) :
    FootprintScope i fp := by
  refine ⟨fun r hr => ?_, fun _ => hi⟩
  rw [h] at hr
  cases hr

end FootprintScope

section

variable (s : State)

theorem footRm8_scope (rm : RM8) (flags : List Flag) :
    (footRm8 rm flags s).sregs = [] ∧ (footRm8 rm flags s).status = false := by
  cases rm <;> exact ⟨rfl, rfl⟩

theorem footRm16_scope (rm : RM16) (flags : List Flag) :
    (footRm16 rm flags s).sregs = [] ∧ (footRm16 rm flags s).status = false := by
  cases rm <;> exact ⟨rfl, rfl⟩

theorem aluFootRm8_scope (op : AluOp) (rm : RM8) :
    (op.footRm8 rm s).sregs = [] ∧ (op.footRm8 rm s).status = false := by
  by_cases hop : op.writes = true
  · rw [aluFootRm8_of_writes hop]
    exact footRm8_scope s rm _
  · rw [aluFootRm8_of_not_writes hop]
    exact ⟨rfl, rfl⟩

theorem aluFootRm16_scope (op : AluOp) (rm : RM16) :
    (op.footRm16 rm s).sregs = [] ∧ (op.footRm16 rm s).status = false := by
  by_cases hop : op.writes = true
  · rw [aluFootRm16_of_writes hop]
    exact footRm16_scope s rm _
  · rw [aluFootRm16_of_not_writes hop]
    exact ⟨rfl, rfl⟩

theorem shiftFootRm8_scope (op : ShiftOp) (rm : RM8) (n : Byte) :
    (op.footRm8 rm n s).sregs = [] ∧ (op.footRm8 rm n s).status = false := by
  unfold ShiftOp.footRm8
  split
  · exact ⟨rfl, rfl⟩
  · exact footRm8_scope s rm _

theorem shiftFootRm16_scope (op : ShiftOp) (rm : RM16) (n : Byte) :
    (op.footRm16 rm n s).sregs = [] ∧ (op.footRm16 rm n s).status = false := by
  unfold ShiftOp.footRm16
  split
  · exact ⟨rfl, rfl⟩
  · exact footRm16_scope s rm _

end

open FootprintScope in
/-- R26, R35, R290, R360: only MOV and POP list DS, ES or SS, only the far transfers list CS, and only INT, HLT and
the unrecognized instructions list STATUS. -/
theorem footprint_scope (i : Instr) (s : State) : FootprintScope i (i.footprint s) := by
  cases i with
  | addRm8R8 | orRm8R8 | adcRm8R8 | sbbRm8R8 | andRm8R8 | subRm8R8 | xorRm8R8 | cmpRm8R8 | addRm8Imm8
    | orRm8Imm8 | adcRm8Imm8 | sbbRm8Imm8 | andRm8Imm8 | subRm8Imm8 | xorRm8Imm8 | cmpRm8Imm8
    | addR8Rm8 | orR8Rm8 | adcR8Rm8 | sbbR8Rm8 | andR8Rm8 | subR8Rm8 | xorR8Rm8 | cmpR8Rm8
    | addAlImm8 | orAlImm8 | adcAlImm8 | sbbAlImm8 | andAlImm8 | subAlImm8 | xorAlImm8 | cmpAlImm8 =>
    exact ofNone (aluFootRm8_scope s _ _)
  | addRm16R16 | orRm16R16 | adcRm16R16 | sbbRm16R16 | andRm16R16 | subRm16R16 | xorRm16R16
    | cmpRm16R16 | addRm16Imm16 | orRm16Imm16 | adcRm16Imm16 | sbbRm16Imm16 | andRm16Imm16
    | subRm16Imm16 | xorRm16Imm16 | cmpRm16Imm16 | addRm16Simm8 | orRm16Simm8 | adcRm16Simm8
    | sbbRm16Simm8 | andRm16Simm8 | subRm16Simm8 | xorRm16Simm8 | cmpRm16Simm8 | addR16Rm16 | orR16Rm16
    | adcR16Rm16 | sbbR16Rm16 | andR16Rm16 | subR16Rm16 | xorR16Rm16 | cmpR16Rm16 | addAxImm16
    | orAxImm16 | adcAxImm16 | sbbAxImm16 | andAxImm16 | subAxImm16 | xorAxImm16 | cmpAxImm16 =>
    exact ofNone (aluFootRm16_scope s _ _)
  | rolRm8Cnt | rorRm8Cnt | rclRm8Cnt | rcrRm8Cnt | shlRm8Cnt | shrRm8Cnt | salRm8Cnt | sarRm8Cnt
    | rolRm8One | rorRm8One | rclRm8One | rcrRm8One | shlRm8One | shrRm8One | salRm8One | sarRm8One
    | rolRm8Cl | rorRm8Cl | rclRm8Cl | rcrRm8Cl | shlRm8Cl | shrRm8Cl | salRm8Cl | sarRm8Cl =>
    exact ofNone (shiftFootRm8_scope s _ _ _)
  | rolRm16Cnt | rorRm16Cnt | rclRm16Cnt | rcrRm16Cnt | shlRm16Cnt | shrRm16Cnt | salRm16Cnt
    | sarRm16Cnt | rolRm16One | rorRm16One | rclRm16One | rcrRm16One | shlRm16One | shrRm16One
    | salRm16One | sarRm16One | rolRm16Cl | rorRm16Cl | rclRm16Cl | rcrRm16Cl | shlRm16Cl
    | shrRm16Cl | salRm16Cl | sarRm16Cl => exact ofNone (shiftFootRm16_scope s _ _ _)
  | incRm8 | decRm8 | movRm8R8 | movRm8Imm8 => exact ofNone (footRm8_scope s _ _)
  | incRm16 | decRm16 | movRm16R16 | movRm16Es | movRm16Cs | movRm16Ss | movRm16Ds | movRm16Imm16
    | popRm16 => exact ofNone (footRm16_scope s _ _)
  | movEsRm16 | movSsRm16 | movDsRm16 => exact ofSreg ⟨rfl, rfl⟩ (.inr ⟨nofun, .inl rfl⟩)
  | popEs | popSs | popDs => exact ofSreg ⟨rfl, rfl⟩ (.inr ⟨nofun, .inr rfl⟩)
  | jmpFar off seg => exact ofSreg ⟨rfl, rfl⟩ (.inl ⟨rfl, ⟨off, seg, 0, .inl rfl⟩⟩)
  | callFar off seg => exact ofSreg ⟨rfl, rfl⟩ (.inl ⟨rfl, ⟨off, seg, 0, .inr (.inl rfl)⟩⟩)
  | retf => exact ofSreg ⟨rfl, rfl⟩ (.inl ⟨rfl, ⟨0, 0, 0, .inr (.inr (.inl rfl))⟩⟩)
  | retfPop n => exact ofSreg ⟨rfl, rfl⟩ (.inl ⟨rfl, ⟨0, 0, n, .inr (.inr (.inr rfl))⟩⟩)
  | hlt => exact ofStatus rfl (.inl rfl)
  | int n => exact ofStatus rfl (.inr (.inr ⟨n, rfl⟩))
  | incAx | incCx | incDx | incBx | incSp | incBp | incSi | incDi | decAx | decCx | decDx | decBx
    | decSp | decBp | decSi | decDi | movR8Rm8 | movR16Rm16 | movAlMoffs | movAxMoffs | movMoffsAl
    | movMoffsAx | movAlImm8 | movClImm8 | movDlImm8 | movBlImm8 | movAhImm8 | movChImm8 | movDhImm8
    | movBhImm8 | movAxImm16 | movCxImm16 | movDxImm16 | movBxImm16 | movSpImm16 | movBpImm16
    | movSiImm16 | movDiImm16 | daa | das | aaa | aas | aam | aad | movsb | movsw | cmpsb | cmpsw
    | stosb | stosw | lodsb | lodsw | scasb | scasw | pushEs | pushCs | pushSs | pushDs | pushAx
    | pushCx | pushDx | pushBx | pushSp | pushBp | pushSi | pushDi | pushRm16 | popAx | popCx | popDx
    | popBx | popSp | popBp | popSi | popDi | jmpNear | jmpShort | callNear | retPop | ret | jo | jno
    | jb | jae | je | jne | jbe | ja | js | jns | jp | jnp | jl | jge | jle | jg | jcxz | loopne
    | loope | loop => exact ofNone ⟨rfl, rfl⟩
  | _ => exact ofStatus rfl (.inr (.inl rfl))

/-- R26: a segment register changes only where the footprint lists it. -/
theorem sreg_of_exec {i : Instr} {s t : State} (h : exec i s = .next t) {r : SReg}
    (hr : ¬ (r = .cs ∧ IsFarTransfer i ∨ r ≠ .cs ∧ (i.family = .mov ∨ i.family = .pop))) :
    t.sreg r = s.sreg r :=
  (exec_frame h).covers.sreg r fun hmem => hr ((footprint_scope i s).sregs r hmem)

/-- R363: of the interrupts, the exit function alone writes STATUS. -/
theorem status_of_int {n : Byte} {s t : State} (h : exec (.int n) s = .next t)
    (hn : ¬ (n = dosVector ∧ s.reg8 .ah = fnExit)) : t.status = s.status := by
  have hcovers : ({ conout := true, diag := true } : Footprint).CoversIp s t :=
    bridge_covers rfl rfl (fun h1 h2 => absurd ⟨h1, h2⟩ hn) (finish_eq_next.mp h)
  exact hcovers.status rfl

end Sys2Proof.Machine

namespace Sys2Proof

open Sys2Proof.Machine

/-- Settles O58, by `exec_frame`, which holds of every instruction. -/
theorem frameOfArithmetic : Obligations.FrameOfArithmetic := fun _ _ _ _ h => (exec_frame h).covers

/-- Settles O59, by `exec_frame`. -/
theorem frameOfDataMovement : Obligations.FrameOfDataMovement := fun _ _ _ _ h => (exec_frame h).covers

/-- Settles O60, by `exec_frame`. -/
theorem frameOfControlAndSystem : Obligations.FrameOfControlAndSystem := fun _ _ _ _ h =>
  (exec_frame h).covers

/-- Settles O56. IP is part of `exec_frame`; a segment register that changed is in the footprint, and by
`footprint_scope` only the instructions named list one. -/
theorem whoWritesIpAndSegments : Obligations.WhoWritesIpAndSegments := by
  intro i s t h
  refine ⟨(exec_frame h).ip, fun hfar => ?_, fun hfam => ?_⟩
  · refine sreg_of_exec h (r := .cs) ?_
    rintro (⟨-, off, seg, n, hi⟩ | ⟨hne, -⟩)
    · obtain ⟨h1, h2, h3, h4⟩ := hfar off seg n
      exact hi.elim h1 fun hi => hi.elim h2 fun hi => hi.elim h3 h4
    · exact hne rfl
  · have hdata : ∀ r : SReg, r ≠ .cs → t.sreg r = s.sreg r := by
      intro r hr
      refine sreg_of_exec h ?_
      rintro (⟨hcs, -⟩ | ⟨-, hi⟩)
      · exact hr hcs
      · exact hfam (by simpa using hi)
    exact ⟨hdata .ds nofun, hdata .es nofun, hdata .ss nofun⟩

/-- Settles O57. By `footprint_scope` the instruction is HLT, an unrecognized one or an INT; by `status_of_int` the
INT is the exit function. -/
theorem whoEndsARun : Obligations.WhoEndsARun := by
  intro i s t h hne
  have hstatus : (i.footprint s).status = true :=
    Bool.of_not_eq_false fun hf => hne ((exec_frame h).covers.status hf)
  obtain hi | hi | ⟨n, rfl⟩ := (footprint_scope i s).status hstatus
  · exact .inl hi
  · exact .inr (.inl hi)
  · obtain ⟨rfl, hah⟩ : n = dosVector ∧ s.reg8 .ah = fnExit :=
      by_contra fun hn => hne (status_of_int h hn)
    exact .inr (.inr ⟨rfl, hah⟩)

end Sys2Proof
end

section
/-! PROOF. The halves of the word registers (R21), HLT and the exit function (R341, R363), CONSTRUCT, RESET and the
reset state (R400, R401), one step by its bytes (R342) and the loop of START (R402). -/

namespace Sys2Proof.Machine

/-! ### The exit function -/

theorem dosService_exit {s : State} (h : s.reg8 .ah = fnExit) :
    dosService s = .ok (raiseTerminate (s.reg8 .al) s) := if_pos h

/-! ### Fetching -/

/-- R68: the fetch reads the bytes at successive offsets of CS. -/
theorem State.fetchFrom_eq_ok {s : State} {bytes : List Byte} {ip : Word}
    (h : ∀ k (hk : k < bytes.length), s.memRead8 s.cs (ip + BitVec.ofNat 16 k) = .ok bytes[k]) :
    s.fetchFrom bytes.length ip = .ok bytes := by
  induction bytes generalizing ip with
  | nil => rfl
  | cons b bytes ih =>
    have hfirst : s.memRead8 s.cs ip = .ok b := by simpa using h 0 (Nat.zero_lt_succ _)
    have hrest : s.fetchFrom bytes.length (ip + 1) = .ok bytes := by
      refine ih fun k hk => ?_
      have hip : ip + 1 + BitVec.ofNat 16 k = ip + BitVec.ofNat 16 (k + 1) := by
        rw [Nat.add_comm k 1, BitVec.ofNat_add, ← BitVec.add_assoc]
        rfl
      rw [hip]
      exact h (k + 1) (Nat.succ_lt_succ hk)
    rw [List.length_cons, State.fetchFrom, hfirst, Except.bind, hrest]
    rfl

/-- R342: a running machine runs the instruction that the fetched bytes begin with. -/
theorem step_of_decode {s : State} {bytes rest : List Byte} {i : Instr} (hs : s.status = .running)
    (hfetch : s.fetchWindow = .ok bytes) (hdecode : decode bytes = .ok (i, rest)) :
    step s = endStep (exec i (s.advance (bytes.length - rest.length))) := by
  rw [step, hs]
  dsimp only
  rw [stepRunning, hfetch]
  dsimp only
  rw [runBytes, hdecode]

/-- R62, R68: a fetch outside the store faults at its first byte. -/
theorem step_of_fetch_outside {s : State} (hs : s.status = .running) (hb : memSize ≤ s.phys s.cs s.ip) :
    step s = .fault .memBounds := by
  have hfetch : s.fetchWindow = .error .memBounds :=
    except_bind_eq_error.mpr (.inl (State.memRead8_eq_error.mpr ⟨hb, rfl⟩))
  rw [step, hs]
  dsimp only
  rw [stepRunning, hfetch]

/-- R35, R412: no step is enabled once the run has ended. -/
theorem step_of_ended {s : State} (hs : s.status ≠ .running) : step s = .fault .notRunning := by
  unfold step
  split
  · contradiction
  · rfl
  · rfl

/-! ### Where a run ends -/

/-- R402: a running machine ends where it ends after its next step. -/
theorem State.endsIn_of_running {s t : State} (hs : s.status = .running) :
    s.EndsIn t ↔ ∃ u, step s = .next u ∧ u.EndsIn t := by
  constructor
  · rintro ⟨n, hn, ht⟩
    cases n with
    | zero =>
      cases hn
      exact absurd hs ht
    | succ n =>
      obtain ⟨hs', -⟩ | ⟨-, u, hstep, hu⟩ := State.start_succ_eq_next.mp hn
      · exact absurd hs hs'
      · exact ⟨u, hstep, n, hu, ht⟩
  · rintro ⟨u, hstep, n, hu, ht⟩
    exact ⟨n + 1, (State.start_of_step hs hstep n).trans hu, ht⟩

/-- R412: a machine that has ended is its own end. -/
theorem State.endsIn_of_ended {s t : State} (hs : s.status ≠ .running) : s.EndsIn t ↔ t = s := by
  constructor
  · rintro ⟨n, hn, -⟩
    rw [State.start_of_ended hs] at hn
    cases hn
    rfl
  · rintro rfl
    exact ⟨0, rfl, hs⟩

/-- R402: a run has one end at most. By induction on the steps to the first of the two. -/
theorem State.endsIn_unique {s t u : State} (ht : s.EndsIn t) (hu : s.EndsIn u) : t = u := by
  obtain ⟨n, hn, hended⟩ := ht
  induction n generalizing s with
  | zero =>
    cases hn
    exact ((State.endsIn_of_ended hended).mp hu).symm
  | succ n ih =>
    obtain ⟨hs, rfl⟩ | ⟨hs, v, hstep, hv⟩ := State.start_succ_eq_next.mp hn
    · exact ((State.endsIn_of_ended hs).mp hu).symm
    · obtain ⟨w, hstep', hw⟩ := (State.endsIn_of_running hs).mp hu
      cases hstep.symm.trans hstep'
      exact ih hw hv

/-- R37, R402: what the host is handed of a machine that has ended, and EXIT. -/
theorem State.outcome_of_ended {t : State} (h : t.status ≠ .running) :
    (∃ code, t.outcome = some (.terminated code) ∧ t.exitCode = some code) ∨
      ∃ op, t.outcome = some (.stopped op) ∧ t.exitCode = none := by
  unfold State.outcome State.exitCode
  cases hst : t.status with
  | running => exact absurd hst h
  | terminated code => exact .inl ⟨code, rfl, rfl⟩
  | stopped op => exact .inr ⟨op, rfl, rfl⟩

end Sys2Proof.Machine

namespace Sys2Proof

open Sys2Proof.Machine

/-- Settles O49: the loop of START unrolled at its first state (`State.endsIn_of_running`), and an induction on the
steps to an end (`State.endsIn_unique`). -/
theorem stepStops : Obligations.StepStops :=
  ⟨fun _ => step_of_ended, fun _ => step_of_fetch_outside, fun _ _ => State.endsIn_of_running,
    fun _ _ => State.endsIn_of_ended, fun _ _ _ => State.endsIn_unique,
    fun _ _ ⟨_, _, h⟩ => State.outcome_of_ended h⟩

/-- Settles O48, by `step_of_decode` and `State.fetchFrom_eq_ok`. -/
theorem stepRunsDecodedInstruction : Obligations.StepRunsDecodedInstruction := by
  intro s bytes i rest hs hlen hread hdecode
  have hfetch : s.fetchWindow = .ok bytes := by
    rw [State.fetchWindow, show maxInstrLength = bytes.length from hlen.symm]
    exact State.fetchFrom_eq_ok hread
  rw [step_of_decode hs hfetch hdecode, hlen]
  change endStep (exec i { s with ip := s.ip + BitVec.ofNat 16 (6 - rest.length) }) = _
  cases exec i { s with ip := s.ip + BitVec.ofNat 16 (6 - rest.length) } <;> rfl

/-- Settles O12, by the laws of register writes read back: a half and its word register share storage. -/
theorem registerHalvesShareStorage : Obligations.RegisterHalvesShareStorage := by
  intro s
  refine ⟨?_, ?_, ?_, ?_, fun r v q => s.reg8_setReg8 r q v, fun r v q h => ?_,
    fun r v q => s.reg16_setReg16 r q v, fun r v q h => ?_⟩
  · exact (joinBytes_high_low s.ax).symm
  · exact (joinBytes_high_low s.bx).symm
  · exact (joinBytes_high_low s.cx).symm
  · exact (joinBytes_high_low s.dx).symm
  · rw [State.reg16_setReg8, if_neg (Ne.symm h)]
  · rw [State.reg8_setReg16, if_neg h]

/-- Settles O42: HLT by computation, INT 0x21 by `dosService_exit`. -/
theorem haltAndExit : Obligations.HaltAndExit := by
  refine fun s => ⟨rfl, fun h => ?_, fun _ => rfl⟩
  have hbridge : bridge 0x21 s = dosService s := rfl
  change finish (bridge 0x21 s) = _
  rw [hbridge, dosService_exit h]
  rfl

/-- Settles O47, by computation; every register of a constructed machine is 0, one by one. -/
theorem constructAndReset : Obligations.ConstructAndReset := by
  refine ⟨fun cfg => ⟨fun _ => rfl, rfl, fun r => ?_, fun r => ?_, rfl, rfl, rfl, rfl, rfl⟩,
    fun s => ⟨_, _, rfl⟩, rfl⟩
  · cases r <;> rfl
  · cases r <;> rfl

end Sys2Proof
end

section
/-! PROOF. Memory (spec/20_memory.md R60 to R67): the two address models, what a read gives and a write changes, a
word as two bytes, and the canonical form of the store as a normal form. -/

namespace Sys2Proof

/-! ### The bytes of a word -/

/-- R63: high byte x 256 + low byte. -/
theorem toNat_joinBytes (hi lo : Byte) : (joinBytes hi lo).toNat = hi.toNat * 256 + lo.toNat := by
  rw [joinBytes, BitVec.toNat_append, ← Nat.shiftLeft_add_eq_or_of_lt lo.isLt, Nat.shiftLeft_eq]

theorem lowByte_eq_setWidth (v : Word) : lowByte v = v.setWidth 8 :=
  (BitVec.setWidth_eq_extractLsb' (by decide)).symm

theorem highByte_eq_setWidth_shift (v : Word) : highByte v = (v >>> 8).setWidth 8 :=
  BitVec.setWidth_ushiftRight_eq_extractLsb.symm

end Sys2Proof

namespace Sys2Proof.Machine

/-! ### The canonical form -/

theorem Memory.wfFrom_cons {lo k : Nat} {v : Byte} {m : Memory} :
    Memory.wfFrom lo ((k, v) :: m) = true ↔
      lo ≤ k ∧ k < memSize ∧ v ≠ unlistedByte ∧ Memory.wfFrom (k + 1) m = true := by
  simp [Memory.wfFrom, and_assoc]

@[simp] theorem Memory.read_cons_self (k : Nat) (v : Byte) (m : Memory) : Memory.read ((k, v) :: m) k = v :=
  if_pos rfl

/-- A byte that does not read as an unlisted one is no lower than the cells begin. -/
theorem Memory.le_of_read_ne {lo a : Nat} {m : Memory} (h : Memory.wfFrom lo m = true)
    (ha : m.read a ≠ unlistedByte) : lo ≤ a :=
  not_lt.mp fun hlt => ha (Memory.read_below h hlt)

/-- Stores with the same first address that read the same have tails that read the same: up to that address the
tails read as unlisted. -/
theorem Memory.read_tail_eq {k : Nat} {v w : Byte} {m n : Memory} (hm : Memory.wfFrom (k + 1) m = true)
    (hn : Memory.wfFrom (k + 1) n = true)
    (h : ∀ a, Memory.read ((k, v) :: m) a = Memory.read ((k, w) :: n) a) (a : Nat) : m.read a = n.read a := by
  by_cases hak : a = k
  · rw [Memory.read_below hm (by omega), Memory.read_below hn (by omega)]
  · simpa only [Memory.read_cons, if_neg hak] using h a

/-- A canonical store is what it reads as: the first cell of each is the lowest address that does not read as
unlisted, so the two have the same one, and the tails read the same. -/
theorem Memory.eq_of_read_eq {lo lo' : Nat} {m n : Memory} (hm : Memory.wfFrom lo m = true)
    (hn : Memory.wfFrom lo' n = true) (h : ∀ a, m.read a = n.read a) : m = n := by
  induction m generalizing lo lo' n with
  | nil =>
    cases n with
    | nil => rfl
    | cons c n =>
      obtain ⟨k, w⟩ := c
      obtain ⟨-, -, hw, -⟩ := Memory.wfFrom_cons.mp hn
      exact absurd (by simpa using (h k).symm) hw
  | cons c m ih =>
    obtain ⟨j, v⟩ := c
    obtain ⟨-, hj, hv, hm'⟩ := Memory.wfFrom_cons.mp hm
    cases n with
    | nil => exact absurd (by simpa using h j) hv
    | cons d n =>
      obtain ⟨k, w⟩ := d
      obtain ⟨-, hk, hw, hn'⟩ := Memory.wfFrom_cons.mp hn
      have hkj : k ≤ j :=
        Memory.le_of_read_ne (Memory.wfFrom_cons.mpr ⟨le_rfl, hk, hw, hn'⟩)
          (by rwa [← h j, Memory.read_cons_self])
      have hjk : j ≤ k :=
        Memory.le_of_read_ne (Memory.wfFrom_cons.mpr ⟨le_rfl, hj, hv, hm'⟩)
          (by rwa [h k, Memory.read_cons_self])
      obtain rfl := le_antisymm hjk hkj
      have hvw : v = w := by simpa using h j
      rw [hvw, ih hm' hn' (Memory.read_tail_eq hm' hn' h)]

/-- Two bytes written at different addresses. -/
theorem Memory.read_write_write {m : Memory} {k l : Nat} (h : m.wf = true) (hk : k < memSize) (hne : k ≠ l)
    (v w : Byte) (a : Nat) :
    ((m.write k v).write l w).read a = if a = k then v else if a = l then w else m.read a := by
  rw [Memory.read_write (Memory.wf_write h hk), Memory.read_write h]
  by_cases hak : a = k
  · rw [if_neg (hak ▸ hne), if_pos hak, if_pos hak]
  · simp only [if_neg hak]

/-! ### Addresses -/

/-- R61: banks do not overlap. -/
theorem phys_banked64k_inj {seg off seg' off' : Word}
    (h : phys .banked64k seg off = phys .banked64k seg' off') : seg = seg' ∧ off = off' := by
  simp only [phys] at h
  constructor <;> bv_omega

/-- R62: a bank is inside the store when its number is at most 15. -/
theorem phys_banked64k_lt_memSize_iff (seg off : Word) : phys .banked64k seg off < memSize ↔ seg.toNat ≤ 15 := by
  have hoff := off.isLt
  simp only [phys, memSize]
  omega

/-- The second byte of a word where the statements put it: at the next physical address, under REAL8086 modulo
2^20. -/
theorem State.phys_succ_eq_ite (s : State) (seg : Word) {off : Word} (ho : off ≠ 0xFFFF) :
    s.phys seg (off + 1) =
      if s.cfg.addrModel = .real8086 then (s.phys seg off + 1) % 1048576 else s.phys seg off + 1 := by
  rw [State.phys_succ s seg ho]
  cases s.cfg.addrModel with
  | banked64k => exact (if_neg nofun).symm
  | real8086 => exact (if_pos rfl).symm

/-! ### A word access as two byte accesses -/

/-- R67: the second byte is outside the store or both are inside. -/
theorem State.memRead16_eq_bytes (s : State) (seg : Word) {off : Word} (ho : off ≠ 0xFFFF) :
    s.memRead16 seg off =
      (s.memRead8 seg (off + 1)).bind fun hi => (s.memRead8 seg off).map fun lo => joinBytes hi lo := by
  by_cases hb : s.phys seg (off + 1) < memSize
  · rw [State.memRead8_eq_ok.mpr ⟨hb, rfl⟩, State.memRead8_eq_ok.mpr ⟨State.phys_lt_of_succ ho hb, rfl⟩]
    exact State.memRead16_eq_ok.mpr ⟨ho, hb, rfl⟩
  · rw [State.memRead8_eq_error.mpr ⟨not_lt.mp hb, rfl⟩]
    exact State.memRead16_eq_error.mpr (.inr ⟨ho, not_lt.mp hb, rfl⟩)

/-- R67: where the first byte is outside the store, so is the second, with the same fault. -/
theorem State.memWrite16_eq_bytes (s : State) (seg : Word) {off : Word} (ho : off ≠ 0xFFFF) (v : Word) :
    s.memWrite16 seg off v =
      (s.memWrite8 seg off (lowByte v)).bind fun t => t.memWrite8 seg (off + 1) (highByte v) := by
  by_cases hb : s.phys seg (off + 1) < memSize
  · rw [State.memWrite16_eq_ok.mpr ⟨ho, hb, rfl⟩, eq_comm, except_bind_eq_ok]
    exact ⟨_, State.memWrite8_eq_ok.mpr ⟨State.phys_lt_of_succ ho hb, rfl⟩,
      State.memWrite8_eq_ok.mpr ⟨hb, rfl⟩⟩
  · have hb' := not_lt.mp hb
    rw [State.memWrite16_eq_error.mpr (.inr ⟨ho, hb', rfl⟩), eq_comm, except_bind_eq_error]
    by_cases hfirst : s.phys seg off < memSize
    · exact .inr ⟨_, State.memWrite8_eq_ok.mpr ⟨hfirst, rfl⟩, State.memWrite8_eq_error.mpr ⟨hb', rfl⟩⟩
    · exact .inl (State.memWrite8_eq_error.mpr ⟨not_lt.mp hfirst, rfl⟩)

end Sys2Proof.Machine

namespace Sys2Proof

open Sys2Proof.Machine

/-- Settles O7. Both formulas are the model's; the rest is what they say of numbers below 2^16. -/
theorem addressFormation : Obligations.AddressFormation := fun seg off _ _ =>
  ⟨rfl, rfl, phys_banked64k_lt_memSize_iff seg off, Nat.mod_lt _ (by decide), phys_banked64k_inj⟩

/-- Settles O9. The bytes of a word are at different addresses (`State.phys_ne_succ`), so the two writes do not
meet. -/
theorem memoryWritesChangeOnlyTheirBytes : Obligations.MemoryWritesChangeOnlyTheirBytes := by
  intro s seg off b v hw first second
  have hsecond (ho : off ≠ 0xFFFF) : second = s.phys seg (off + 1) := (s.phys_succ_eq_ite seg ho).symm
  refine ⟨fun h => ⟨_, State.memWrite8_eq_ok.mpr ⟨h, rfl⟩, fun a => Memory.read_write hw _ a b⟩,
    fun h => State.memWrite8_eq_error.mpr ⟨h, rfl⟩,
    fun ho => State.memWrite16_eq_error.mpr (.inl ⟨ho, rfl⟩), fun ho h => ?_, fun ho h => ?_⟩
  · rw [hsecond ho] at h
    exact State.memWrite16_eq_error.mpr (.inr ⟨ho, h, rfl⟩)
  · rw [hsecond ho] at h ⊢
    rw [← lowByte_eq_setWidth, ← highByte_eq_setWidth_shift]
    exact ⟨_, State.memWrite16_eq_ok.mpr ⟨ho, h, rfl⟩,
      Memory.read_write_write hw (State.phys_lt_of_succ ho h) (State.phys_ne_succ s seg ho) _ _⟩

/-- Settles O10, by `State.memRead16_eq_bytes` and `State.memWrite16_eq_bytes`. -/
theorem wordAccessIsTwoByteAccesses : Obligations.WordAccessIsTwoByteAccesses := by
  intro s seg off v ho
  refine ⟨s.memRead16_eq_bytes seg ho, ?_⟩
  rw [← lowByte_eq_setWidth, ← highByte_eq_setWidth_shift]
  exact s.memWrite16_eq_bytes seg ho v

/-- Settles O11, by induction on the cells (`Memory.eq_of_read_eq`). -/
theorem canonicalMemoriesAreEqual : Obligations.CanonicalMemoriesAreEqual :=
  fun _ _ hm hn h => Memory.eq_of_read_eq hm hn h

/-- Settles O8, by the laws of reads (Laws/Ops.lean) and `toNat_joinBytes`. -/
theorem memoryReadValuesAndFaults : Obligations.MemoryReadValuesAndFaults := by
  intro s seg off first second
  have hsecond (ho : off ≠ 0xFFFF) : second = s.phys seg (off + 1) := (s.phys_succ_eq_ite seg ho).symm
  refine ⟨fun h => State.memRead8_eq_ok.mpr ⟨h, rfl⟩, fun h => State.memRead8_eq_error.mpr ⟨h, rfl⟩,
    fun ho => State.memRead16_eq_error.mpr (.inl ⟨ho, rfl⟩), fun ho h => ?_, fun ho h => ?_⟩
  · rw [hsecond ho] at h
    exact State.memRead16_eq_error.mpr (.inr ⟨ho, h, rfl⟩)
  · rw [hsecond ho] at h ⊢
    exact ⟨_, State.memRead16_eq_ok.mpr ⟨ho, h, rfl⟩, toNat_joinBytes _ _⟩

end Sys2Proof
end

section
/-! PROOF. Where an operand cannot be accessed (R62, R66): an instruction ends in the fault of its first access, and in
that of its second where the first can be made. -/

namespace Sys2Proof.Machine

/-! ### Accesses that fault alike -/

/-- R64, R65: a byte write faults where a read does, in the same way. -/
theorem State.memWrite8_eq_error_iff_read {s : State} {seg off : Word} {v : Byte} {f : Fault} :
    s.memWrite8 seg off v = .error f ↔ s.memRead8 seg off = .error f :=
  State.memWrite8_eq_error.trans State.memRead8_eq_error.symm

/-- R64 to R66: a word write faults where a read does, in the same way. -/
theorem State.memWrite16_eq_error_iff_read {s : State} {seg off v : Word} {f : Fault} :
    s.memWrite16 seg off v = .error f ↔ s.memRead16 seg off = .error f :=
  State.memWrite16_eq_error.trans State.memRead16_eq_error.symm

/-! ### The instructions with an r/m operand -/

section

variable {i : Instr} {s : State} {f : Fault}

/-- R62, R104, R166, R226: the operand is the first access of the shared operation that the instruction is. -/
theorem exec_of_operand8_error {rm : RM8} (h : i.operand8 s = some rm) (hf : s.readRM8 rm = .error f) :
    exec i s = .fault f := by
  cases i with
  | addRm8R8 | orRm8R8 | adcRm8R8 | sbbRm8R8 | andRm8R8 | subRm8R8 | xorRm8R8 | cmpRm8R8
    | addRm8Imm8 | orRm8Imm8 | adcRm8Imm8 | sbbRm8Imm8 | andRm8Imm8 | subRm8Imm8 | xorRm8Imm8
    | cmpRm8Imm8 =>
    cases h
    exact finish_eq_fault.mpr (aluRm8_of_error hf)
  | addR8Rm8 | orR8Rm8 | adcR8Rm8 | sbbR8Rm8 | andR8Rm8 | subR8Rm8 | xorR8Rm8 | cmpR8Rm8 =>
    cases h
    exact finish_eq_fault.mpr (aluReg8FromRm_of_error hf)
  | incRm8 | decRm8 =>
    cases h
    exact finish_eq_fault.mpr (incDecRm8_of_error hf)
  | movRm8R8 | movRm8Imm8 =>
    cases h
    exact finish_eq_fault.mpr (moveToRm8_of_error hf)
  | movR8Rm8 =>
    cases h
    exact finish_eq_fault.mpr (moveToReg8_of_error hf)
  | rolRm8One | rorRm8One | rclRm8One | rcrRm8One | shlRm8One | shrRm8One | salRm8One | sarRm8One =>
    cases h
    exact finish_eq_fault.mpr (shiftRm8_of_error hf (by decide))
  | rolRm8Cnt | rorRm8Cnt | rclRm8Cnt | rcrRm8Cnt | shlRm8Cnt | shrRm8Cnt | salRm8Cnt | sarRm8Cnt
    | rolRm8Cl | rorRm8Cl | rclRm8Cl | rcrRm8Cl | shlRm8Cl | shrRm8Cl | salRm8Cl | sarRm8Cl =>
    obtain ⟨hc, ⟨⟩⟩ := Option.ite_none_left_eq_some.mp h
    exact finish_eq_fault.mpr (shiftRm8_of_error hf hc)
  | _ => cases h

/-- The same for a word operand. -/
theorem exec_of_operand16_error {rm : RM16} (h : i.operand16 s = some rm) (hf : s.readRM16 rm = .error f) :
    exec i s = .fault f := by
  cases i with
  | addRm16R16 | orRm16R16 | adcRm16R16 | sbbRm16R16 | andRm16R16 | subRm16R16 | xorRm16R16
    | cmpRm16R16 | addRm16Imm16 | orRm16Imm16 | adcRm16Imm16 | sbbRm16Imm16 | andRm16Imm16
    | subRm16Imm16 | xorRm16Imm16 | cmpRm16Imm16 | addRm16Simm8 | orRm16Simm8 | adcRm16Simm8
    | sbbRm16Simm8 | andRm16Simm8 | subRm16Simm8 | xorRm16Simm8 | cmpRm16Simm8 =>
    cases h
    exact finish_eq_fault.mpr (aluRm16_of_error hf)
  | addR16Rm16 | orR16Rm16 | adcR16Rm16 | sbbR16Rm16 | andR16Rm16 | subR16Rm16 | xorR16Rm16
    | cmpR16Rm16 =>
    cases h
    exact finish_eq_fault.mpr (aluReg16FromRm_of_error hf)
  | incRm16 | decRm16 =>
    cases h
    exact finish_eq_fault.mpr (incDecRm16_of_error hf)
  | movRm16R16 | movRm16Es | movRm16Cs | movRm16Ss | movRm16Ds | movRm16Imm16 =>
    cases h
    exact finish_eq_fault.mpr (moveToRm16_of_error hf)
  | movR16Rm16 =>
    cases h
    exact finish_eq_fault.mpr (moveToReg16_of_error hf)
  | movEsRm16 | movSsRm16 | movDsRm16 =>
    cases h
    exact finish_eq_fault.mpr (moveToSreg_of_error hf)
  | pushRm16 =>
    cases h
    exact finish_eq_fault.mpr (pushRm_of_error hf)
  | rolRm16One | rorRm16One | rclRm16One | rcrRm16One | shlRm16One | shrRm16One | salRm16One
    | sarRm16One =>
    cases h
    exact finish_eq_fault.mpr (shiftRm16_of_error hf (by decide))
  | rolRm16Cnt | rorRm16Cnt | rclRm16Cnt | rcrRm16Cnt | shlRm16Cnt | shrRm16Cnt | salRm16Cnt
    | sarRm16Cnt | rolRm16Cl | rorRm16Cl | rclRm16Cl | rcrRm16Cl | shlRm16Cl | shrRm16Cl | salRm16Cl
    | sarRm16Cl =>
    obtain ⟨hc, ⟨⟩⟩ := Option.ite_none_left_eq_some.mp h
    exact finish_eq_fault.mpr (shiftRm16_of_error hf hc)
  | _ => cases h

end

/-! ### Where each string primitive faults -/

section

variable {s : State} {f : Fault}

/-- R252: MOVSB faults as the read of its source does, else as one of its destination would. -/
theorem copyElement8_eq_error :
    copyElement8 s = .error f ↔
      s.memRead8 s.ds s.si = .error f ∨ ∃ v, s.memRead8 s.ds s.si = .ok v ∧ s.memRead8 s.es s.di = .error f := by
  simp only [copyElement8, except_bind_eq_error, except_map_eq_error, State.memWrite8_eq_error_iff_read]

/-- R252: MOVSW. -/
theorem copyElement16_eq_error :
    copyElement16 s = .error f ↔
      s.memRead16 s.ds s.si = .error f ∨
        ∃ v, s.memRead16 s.ds s.si = .ok v ∧ s.memRead16 s.es s.di = .error f := by
  simp only [copyElement16, except_bind_eq_error, except_map_eq_error, State.memWrite16_eq_error_iff_read]

/-- R253: CMPSB. -/
theorem compareElements8_eq_error :
    compareElements8 s = .error f ↔
      s.memRead8 s.ds s.si = .error f ∨ ∃ v, s.memRead8 s.ds s.si = .ok v ∧ s.memRead8 s.es s.di = .error f := by
  simp only [compareElements8, except_bind_eq_error, except_map_eq_error]

/-- R253: CMPSW. -/
theorem compareElements16_eq_error :
    compareElements16 s = .error f ↔
      s.memRead16 s.ds s.si = .error f ∨
        ∃ v, s.memRead16 s.ds s.si = .ok v ∧ s.memRead16 s.es s.di = .error f := by
  simp only [compareElements16, except_bind_eq_error, except_map_eq_error]

/-- R254: STOSB. -/
theorem storeElement8_eq_error : storeElement8 s = .error f ↔ s.memRead8 s.es s.di = .error f :=
  except_map_eq_error.trans State.memWrite8_eq_error_iff_read

/-- R254: STOSW. -/
theorem storeElement16_eq_error : storeElement16 s = .error f ↔ s.memRead16 s.es s.di = .error f :=
  except_map_eq_error.trans State.memWrite16_eq_error_iff_read

/-! ### The second stack word -/

/-- R270: what a push that can be made leaves, as far as a second access depends on it. -/
theorem State.push16_frame_of_read {a : Word} (v : Word) (h : s.memRead16 s.ss (s.sp - 2) = .ok a) :
    ∃ t, s.push16 v = .ok t ∧ t.ss = s.ss ∧ t.sp = s.sp - 2 ∧ t.cfg = s.cfg := by
  obtain ⟨ho, hb, -⟩ := State.memRead16_eq_ok.mp h
  exact ⟨_, State.push16_eq_ok.mpr ⟨ho, hb, rfl⟩, rfl, rfl, rfl⟩

/-- R296: a far call faults as its first push does. -/
theorem callFarTo_of_error (off seg : Word) (h : s.memRead16 s.ss (s.sp - 2) = .error f) :
    callFarTo off seg s = .error f :=
  except_bind_eq_error.mpr (.inl (State.push16_error_of_read _ h))

/-- R296: where the first push of a far call can be made, it faults as the second does. -/
theorem callFarTo_of_second_error {a : Word} (off seg : Word) (ha : s.memRead16 s.ss (s.sp - 2) = .ok a)
    (h : s.memRead16 s.ss (s.sp - 4) = .error f) : callFarTo off seg s = .error f := by
  obtain ⟨t, ht, hss, hsp, hcfg⟩ := State.push16_frame_of_read s.cs ha
  refine except_bind_eq_error.mpr (.inr ⟨t, ht, except_map_eq_error.mpr (State.push16_error_of_read _ ?_)⟩)
  have hsp4 : t.sp - 2 = s.sp - 4 := by rw [hsp, BitVec.sub_sub]; rfl
  rw [hss, hsp4]
  exact (State.memAccess16_error_of_read h hcfg).1

/-- R300, R301: where the first pop of a far return can be made, it faults as the second does. -/
theorem returnFar_of_second_error {a : Word} (n : Word) (ha : s.memRead16 s.ss s.sp = .ok a)
    (h : s.memRead16 s.ss (s.sp + 2) = .error f) : returnFar n s = .error f :=
  except_bind_eq_error.mpr (.inr ⟨_, State.pop16_of_read ha,
    except_map_eq_error.mpr (State.pop16_error_of_read (State.memAccess16_error_of_read h rfl).1)⟩)

/-- R273: where the operand of PUSH r/m16 can be read, it faults as the push does. -/
theorem pushRm_of_stack_error {rm : RM16} {v : Word} (hv : s.readRM16 rm = .ok v)
    (h : s.memRead16 s.ss (s.sp - 2) = .error f) : pushRm rm s = .error f := by
  cases rm with
  | reg r => exact State.push16_error_of_read _ h
  | mem m => exact except_bind_eq_error.mpr (.inr ⟨v, hv, State.push16_error_of_read v h⟩)

/-- R279: where the stack word of POP r/m16 can be read, it faults as a read of its destination would. -/
theorem popRm_of_operand_error {rm : RM16} {a : Word} (ha : s.memRead16 s.ss s.sp = .ok a)
    (h : s.readRM16 rm = .error f) : popRm rm s = .error f :=
  except_bind_eq_error.mpr (.inr ⟨_, State.pop16_of_read ha, State.writeLoc16_error_of_read a h rfl⟩)

end

end Sys2Proof.Machine

namespace Sys2Proof

open Sys2Proof.Machine

/-- Settles O22, by `exec_of_operand8_error` and `exec_of_operand16_error`; MOV with a direct offset is one access to
DS. -/
theorem operandFaults : Obligations.OperandFaults := fun _ _ _ =>
  ⟨fun _ => exec_of_operand8_error, fun _ => exec_of_operand16_error,
    fun _ h => ⟨finish_eq_fault.mpr (except_map_eq_error.mpr h),
      finish_eq_fault.mpr (State.memWrite8_eq_error_iff_read.mpr h)⟩,
    fun _ h => ⟨finish_eq_fault.mpr (except_map_eq_error.mpr h),
      finish_eq_fault.mpr (State.memWrite16_eq_error_iff_read.mpr h)⟩⟩

/-- Settles O36. Each clause says of one access what faults by it: the source, the destination, and the destination
where the source can be read, of the string primitives; then the stack words and the operand of PUSH and POP. -/
theorem stringAndStackFaults : Obligations.StringAndStackFaults := by
  intro s f
  refine ⟨fun h => ?source8, fun h => ?source16, fun h => ?dest8, fun h => ?dest16, fun v hv h => ?second8,
    fun v hv h => ?second16, fun h => ?push, fun a ha h off seg => ?callFar, fun h => ?pop, fun a ha h => ?retf,
    fun a m ha h => ?popMem⟩
  case source8 =>
    exact ⟨finish_eq_fault.mpr (copyElement8_eq_error.mpr (.inl h)),
      finish_eq_fault.mpr (except_map_eq_error.mpr h),
      finish_eq_fault.mpr (compareElements8_eq_error.mpr (.inl h))⟩
  case source16 =>
    exact ⟨finish_eq_fault.mpr (copyElement16_eq_error.mpr (.inl h)),
      finish_eq_fault.mpr (except_map_eq_error.mpr h),
      finish_eq_fault.mpr (compareElements16_eq_error.mpr (.inl h))⟩
  case dest8 =>
    exact ⟨finish_eq_fault.mpr (storeElement8_eq_error.mpr h), finish_eq_fault.mpr (except_map_eq_error.mpr h)⟩
  case dest16 =>
    exact ⟨finish_eq_fault.mpr (storeElement16_eq_error.mpr h), finish_eq_fault.mpr (except_map_eq_error.mpr h)⟩
  case second8 =>
    exact ⟨finish_eq_fault.mpr (copyElement8_eq_error.mpr (.inr ⟨v, hv, h⟩)),
      finish_eq_fault.mpr (compareElements8_eq_error.mpr (.inr ⟨v, hv, h⟩))⟩
  case second16 =>
    exact ⟨finish_eq_fault.mpr (copyElement16_eq_error.mpr (.inr ⟨v, hv, h⟩)),
      finish_eq_fault.mpr (compareElements16_eq_error.mpr (.inr ⟨v, hv, h⟩))⟩
  case push =>
    have hpush (v : Word) : s.push16 v = .error f := State.push16_error_of_read v h
    refine ⟨fun r => ?_, fun r => ?_, fun rm v hv => finish_eq_fault.mpr (pushRm_of_stack_error hv h),
      fun rel => finish_eq_fault.mpr (except_map_eq_error.mpr (hpush _)),
      fun off seg => finish_eq_fault.mpr (callFarTo_of_error off seg h)⟩
    · rw [Reg16.exec_push, hpush]
      rfl
    · rw [SReg.exec_push, hpush]
      rfl
  case callFar => exact finish_eq_fault.mpr (callFarTo_of_second_error off seg ha h)
  case pop =>
    have hpop : s.pop16 = .error f := State.pop16_error_of_read h
    have hmap (g : Word × State → State) : finish (s.pop16.map g) = .fault f :=
      finish_eq_fault.mpr (except_map_eq_error.mpr hpop)
    have hbind (g : Word × State → Except Fault State) : finish (s.pop16.bind g) = .fault f :=
      finish_eq_fault.mpr (except_bind_eq_error.mpr (.inl hpop))
    exact ⟨fun r => (r.exec_pop s).trans (hmap _), hmap _, hmap _, hmap _, fun rm => hbind _, hmap _,
      fun n => hmap _, hbind _, fun n => hbind _⟩
  case retf =>
    exact ⟨finish_eq_fault.mpr (returnFar_of_second_error 0 ha h),
      fun n => finish_eq_fault.mpr (returnFar_of_second_error n ha h)⟩
  case popMem => exact finish_eq_fault.mpr (popRm_of_operand_error ha h)

end Sys2Proof
end

section
/-! PROOF. The decoder and the encoder (spec/30_encoding.md R90 to R115): each instruction is decoded from its own
bytes, and the bytes it was decoded from are its own, or, for an unrecognized sub-operation, its opcode byte and a
ModR/M byte with its reg field. -/

namespace Sys2Proof

/-! ### Decoding what was encoded -/

/-- R94 to R115: each instruction by the format of its entry in the opcode map (R107); the last case is the entries
without operand bytes. -/
theorem decode_encode {i : Instr} (hwf : i.wf = true) (rest : List Byte) :
    decode (encode i ++ rest) = .ok (i, rest) := by
  cases i with
  | addRm8R8 rm r | orRm8R8 rm r | adcRm8R8 rm r | sbbRm8R8 rm r | andRm8R8 rm r | subRm8R8 rm r | xorRm8R8 rm r
    | cmpRm8R8 rm r | addR8Rm8 rm r | orR8Rm8 rm r | adcR8Rm8 rm r | sbbR8Rm8 rm r | andR8Rm8 rm r
    | subR8Rm8 rm r | xorR8Rm8 rm r | cmpR8Rm8 rm r | movRm8R8 rm r | movR8Rm8 rm r =>
    exact decode_mrm8 rfl hwf r rest
  | addRm16R16 rm r | orRm16R16 rm r | adcRm16R16 rm r | sbbRm16R16 rm r | andRm16R16 rm r | subRm16R16 rm r
    | xorRm16R16 rm r | cmpRm16R16 rm r | addR16Rm16 rm r | orR16Rm16 rm r | adcR16Rm16 rm r | sbbR16Rm16 rm r
    | andR16Rm16 rm r | subR16Rm16 rm r | xorR16Rm16 rm r | cmpR16Rm16 rm r | movRm16R16 rm r | movR16Rm16 rm r =>
    exact decode_mrm16 rfl hwf r rest
  | addRm8Imm8 rm imm | orRm8Imm8 rm imm | adcRm8Imm8 rm imm | sbbRm8Imm8 rm imm | andRm8Imm8 rm imm
    | subRm8Imm8 rm imm | xorRm8Imm8 rm imm | cmpRm8Imm8 rm imm | movRm8Imm8 rm imm | rolRm8Cnt rm imm
    | rorRm8Cnt rm imm | rclRm8Cnt rm imm | rcrRm8Cnt rm imm | shlRm8Cnt rm imm | shrRm8Cnt rm imm
    | salRm8Cnt rm imm | sarRm8Cnt rm imm =>
    exact decode_rm8i8 rfl hwf imm rest
  | addRm16Simm8 rm imm | orRm16Simm8 rm imm | adcRm16Simm8 rm imm | sbbRm16Simm8 rm imm | andRm16Simm8 rm imm
    | subRm16Simm8 rm imm | xorRm16Simm8 rm imm | cmpRm16Simm8 rm imm | rolRm16Cnt rm imm | rorRm16Cnt rm imm
    | rclRm16Cnt rm imm | rcrRm16Cnt rm imm | shlRm16Cnt rm imm | shrRm16Cnt rm imm | salRm16Cnt rm imm
    | sarRm16Cnt rm imm =>
    exact decode_rm16i8 rfl hwf imm rest
  | addRm16Imm16 rm imm | orRm16Imm16 rm imm | adcRm16Imm16 rm imm | sbbRm16Imm16 rm imm | andRm16Imm16 rm imm
    | subRm16Imm16 rm imm | xorRm16Imm16 rm imm | cmpRm16Imm16 rm imm | movRm16Imm16 rm imm =>
    exact decode_rm16i16 rfl hwf imm rest
  | incRm8 | decRm8 | rolRm8One | rorRm8One | rclRm8One | rcrRm8One | shlRm8One | shrRm8One | salRm8One | sarRm8One
    | rolRm8Cl | rorRm8Cl | rclRm8Cl | rcrRm8Cl | shlRm8Cl | shrRm8Cl | salRm8Cl | sarRm8Cl =>
    exact decode_rm8 rfl hwf rest
  | incRm16 | decRm16 | movRm16Es | movRm16Cs | movRm16Ss | movRm16Ds | movEsRm16 | movSsRm16 | movDsRm16
    | popRm16 | pushRm16 | rolRm16One | rorRm16One | rclRm16One | rcrRm16One | shlRm16One | shrRm16One | salRm16One
    | sarRm16One | rolRm16Cl | rorRm16Cl | rclRm16Cl | rcrRm16Cl | shlRm16Cl | shrRm16Cl | salRm16Cl | sarRm16Cl =>
    exact decode_rm16 rfl hwf rest
  | addAlImm8 imm | orAlImm8 imm | adcAlImm8 imm | sbbAlImm8 imm | andAlImm8 imm | subAlImm8 imm | xorAlImm8 imm
    | cmpAlImm8 imm | movAlImm8 imm | movClImm8 imm | movDlImm8 imm | movBlImm8 imm | movAhImm8 imm | movChImm8 imm
    | movDhImm8 imm | movBhImm8 imm | jo imm | jno imm | jb imm | jae imm | je imm | jne imm | jbe imm | ja imm
    | js imm | jns imm | jp imm | jnp imm | jl imm | jge imm | jle imm | jg imm | loopne imm | loope imm | loop imm
    | jcxz imm | jmpShort imm | int imm | aam imm | aad imm =>
    exact decode_i8 rfl imm rest
  | addAxImm16 imm | orAxImm16 imm | adcAxImm16 imm | sbbAxImm16 imm | andAxImm16 imm | subAxImm16 imm
    | xorAxImm16 imm | cmpAxImm16 imm | movAxImm16 imm | movCxImm16 imm | movDxImm16 imm | movBxImm16 imm
    | movSpImm16 imm | movBpImm16 imm | movSiImm16 imm | movDiImm16 imm | movAlMoffs imm | movAxMoffs imm
    | movMoffsAl imm | movMoffsAx imm | retPop imm | retfPop imm | callNear imm | jmpNear imm =>
    exact decode_i16 rfl imm rest
  | callFar off seg | jmpFar off seg => exact decode_far rfl off seg rest
  | tierXMovRm16Sreg4 | tierXMovRm16Sreg5 | tierXMovRm16Sreg6 | tierXMovRm16Sreg7 | tierXMovCsRm16
    | tierXMovSreg4Rm16 | tierXMovSreg5Rm16 | tierXMovSreg6Rm16 | tierXMovSreg7Rm16 | tierXUndefined8F1
    | tierXUndefined8F2 | tierXUndefined8F3 | tierXUndefined8F4 | tierXUndefined8F5 | tierXUndefined8F6
    | tierXUndefined8F7 | tierXUndefinedC61 | tierXUndefinedC62 | tierXUndefinedC63 | tierXUndefinedC64
    | tierXUndefinedC65 | tierXUndefinedC66 | tierXUndefinedC67 | tierXUndefinedC71 | tierXUndefinedC72
    | tierXUndefinedC73 | tierXUndefinedC74 | tierXUndefinedC75 | tierXUndefinedC76 | tierXUndefinedC77
    | tierXTestRm8 | tierXTestAliasRm8 | tierXNotRm8 | tierXNegRm8 | tierXMulRm8 | tierXImulRm8 | tierXDivRm8
    | tierXIdivRm8 | tierXTestRm16 | tierXTestAliasRm16 | tierXNotRm16 | tierXNegRm16 | tierXMulRm16
    | tierXImulRm16 | tierXDivRm16 | tierXIdivRm16 | tierXUndefinedFE2 | tierXUndefinedFE3 | tierXUndefinedFE4
    | tierXUndefinedFE5 | tierXUndefinedFE6 | tierXUndefinedFE7 | tierXCallRm16 | tierXCallM16m16 | tierXJmpRm16
    | tierXJmpM16m16 | tierXUndefinedFF7 =>
    exact decode_x rfl rest
  | _ => exact decode_op rfl rest

/-! ### Encoding what was decoded -/

theorem decoded_bind_eq_ok {α β : Type} {x : Decoded α} {f : α × List Byte → Except DecodeError β} {b : β} :
    x.bind f = .ok b ↔ ∃ a, x = .ok a ∧ f a = .ok b := by
  cases x <;> simp [Except.bind]

/-- R115: an entry outside the recognized set names an unrecognized instruction. -/
def GroupEntry.keepsTierX : GroupEntry → Bool
  | .x i => i.family = .unrecognized
  | .rm8 _ | .rm16 _ | .rm8i8 _ | .rm16i8 _ | .rm16i16 _ => true

theorem entryOf_select_keepsTierX (op : Byte) :
    ∀ reg, ((entryOf op).select reg).all GroupEntry.keepsTierX = true := by
  revert op
  decide

/-- What the bytes are that an instruction was decoded from, with `rest` left over: its own, or an opcode byte and
a ModR/M byte of which only the reg field counts. -/
inductive DecodedFrom (bytes : List Byte) (i : Instr) (rest : List Byte) : Prop where
  | own (hwf : i.wf = true) (hbytes : bytes = encode i ++ rest)
  | selector (op b : Byte) (hfam : i.family = .unrecognized)
      (henc : encode i = [op, modRMByte 0 (regField b) 0]) (hbytes : bytes = op :: b :: rest)

namespace DecodedFrom

variable {op b : Byte} {bytes rest tail : List Byte} {i : Instr}

/-- An instruction with an r/m operand, whose encoding has the bytes `tail` after it. -/
theorem ofRM {R : Type} {code : R → BitVec 3} {ofCode : BitVec 3 → R} (hcode : ∀ c, code (ofCode c) = c)
    {rm : RM R} (hrm : takeRM ofCode (modeField b) (rmField b) bytes = .ok (rm, tail ++ rest))
    (hi : i.wf = rm.wf ∧ encode i = op :: (rmBytes code (regField b) rm ++ tail)) :
    DecodedFrom (op :: b :: bytes) i rest := by
  obtain ⟨hwf, hb⟩ := rmBytes_of_takeRM hcode hrm
  obtain ⟨hiwf, henc⟩ := hi
  exact .own (hiwf.trans hwf) (by rw [hb, henc, List.cons_append, List.append_assoc])

/-- An instruction whose r/m operand is read last. -/
theorem ofRMRead {R : Type} {code : R → BitVec 3} {ofCode : BitVec 3 → R} {mk : RM R → Instr}
    (hcode : ∀ c, code (ofCode c) = c)
    (hmk : ∀ rm, (mk rm).wf = rm.wf ∧ encode (mk rm) = op :: rmBytes code (regField b) rm)
    (h : (takeRM ofCode (modeField b) (rmField b) bytes).map (fun x => (mk x.1, x.2)) = .ok (i, rest)) :
    DecodedFrom (op :: b :: bytes) i rest := by
  obtain ⟨⟨rm, _⟩, hrm, hok⟩ := decoded_map_eq_ok.mp h
  cases hok
  exact ofRM (tail := []) hcode hrm (by simpa only [List.append_nil] using hmk rm)

/-- An instruction with an r/m operand and after it an immediate, which `take` reads and `put` writes. -/
theorem ofRMImmRead {R α : Type} {code : R → BitVec 3} {ofCode : BitVec 3 → R} {mk : RM R → α → Instr}
    {take : List Byte → Decoded α} {put : α → List Byte}
    (hcode : ∀ c, code (ofCode c) = c)
    (htake : ∀ {bytes rest imm}, take bytes = .ok (imm, rest) → bytes = put imm ++ rest)
    (hmk : ∀ rm imm,
      (mk rm imm).wf = rm.wf ∧ encode (mk rm imm) = op :: (rmBytes code (regField b) rm ++ put imm))
    (h : ((takeRM ofCode (modeField b) (rmField b) bytes).bind fun x =>
      (take x.2).map fun y => (mk x.1 y.1, y.2)) = .ok (i, rest)) :
    DecodedFrom (op :: b :: bytes) i rest := by
  obtain ⟨⟨rm, after⟩, hrm, h⟩ := decoded_bind_eq_ok.mp h
  obtain ⟨⟨imm, _⟩, himm, hok⟩ := decoded_map_eq_ok.mp h
  cases hok
  cases htake himm
  exact ofRM hcode hrm (hmk rm imm)

/-- R107: what a group entry reads. -/
theorem ofGroupRead {g : GroupEntry} (hg : g.Faithful op (regField b)) (hx : g.keepsTierX = true)
    (h : g.read b bytes = .ok (i, rest)) : DecodedFrom (op :: b :: bytes) i rest := by
  cases g with
  | rm8 mk => exact ofRMRead Reg8.code_ofCode hg h
  | rm16 mk => exact ofRMRead Reg16.code_ofCode hg h
  | rm8i8 mk => exact ofRMImmRead (put := fun imm => [imm]) Reg8.code_ofCode takeByte_eq_ok.mp hg h
  | rm16i8 mk => exact ofRMImmRead (put := fun imm => [imm]) Reg16.code_ofCode takeByte_eq_ok.mp hg h
  | rm16i16 mk => exact ofRMImmRead Reg16.code_ofCode takeWord_eq_ok.mp hg h
  | x j =>
    cases h
    obtain ⟨-, henc⟩ := hg
    exact .selector op b (of_decide_eq_true hx) henc rfl

/-- R107: what the entry of an opcode byte reads. -/
theorem ofRead (h : (entryOf op).read bytes = .ok (i, rest)) : DecodedFrom (op :: bytes) i rest := by
  have hfaithful := entryOf_faithful op
  have hx := entryOf_select_keepsTierX op
  cases he : entryOf op with rw [he] at h hfaithful hx
  | op j =>
    cases h
    obtain ⟨hwf, henc⟩ := hfaithful
    exact .own hwf (by rw [henc]; rfl)
  | i8 mk =>
    obtain ⟨⟨imm, _⟩, himm, hok⟩ := decoded_map_eq_ok.mp h
    cases hok
    obtain ⟨hwf, henc⟩ := hfaithful imm
    exact .own hwf (by rw [takeByte_eq_ok.mp himm, henc]; rfl)
  | i16 mk =>
    obtain ⟨⟨imm, _⟩, himm, hok⟩ := decoded_map_eq_ok.mp h
    cases hok
    obtain ⟨hwf, henc⟩ := hfaithful imm
    exact .own hwf (by rw [takeWord_eq_ok.mp himm, henc]; rfl)
  | far mk =>
    obtain ⟨⟨off, _⟩, hoff, h⟩ := decoded_bind_eq_ok.mp h
    obtain ⟨⟨seg, _⟩, hseg, hok⟩ := decoded_map_eq_ok.mp h
    cases hok
    obtain ⟨hwf, henc⟩ := hfaithful off seg
    exact .own hwf (by rw [takeWord_eq_ok.mp hoff, takeWord_eq_ok.mp hseg, henc]; rfl)
  | mrm8 mk =>
    obtain ⟨⟨b, _⟩, hb, h⟩ := decoded_bind_eq_ok.mp h
    cases takeByte_eq_ok.mp hb
    refine ofRMRead (mk := fun rm => mk rm (Reg8.ofCode (regField b))) Reg8.code_ofCode (fun rm => ?_) h
    simpa only [Reg8.code_ofCode] using hfaithful rm (Reg8.ofCode (regField b))
  | mrm16 mk =>
    obtain ⟨⟨b, _⟩, hb, h⟩ := decoded_bind_eq_ok.mp h
    cases takeByte_eq_ok.mp hb
    refine ofRMRead (mk := fun rm => mk rm (Reg16.ofCode (regField b))) Reg16.code_ofCode (fun rm => ?_) h
    simpa only [Reg16.code_ofCode] using hfaithful rm (Reg16.ofCode (regField b))
  | group g0 g1 g2 g3 g4 g5 g6 g7 =>
    obtain ⟨⟨b, _⟩, hb, h⟩ := decoded_bind_eq_ok.mp h
    cases takeByte_eq_ok.mp hb
    exact ofGroupRead (GroupEntry.faithful_selectGroup hfaithful (regField b)) (hx (regField b)) h

/-- R90 to R115: what any bytes that were decoded are. -/
theorem ofDecode (h : decode bytes = .ok (i, rest)) : DecodedFrom bytes i rest := by
  cases bytes with
  | nil => cases h
  | cons op bytes => exact ofRead h

/-- R91: the decoder leaves the end of the bytes it was given. -/
theorem suffix (h : DecodedFrom bytes i rest) : rest <:+ bytes := by
  cases h with
  | own hwf hbytes => exact ⟨encode i, hbytes.symm⟩
  | selector op b hfam henc hbytes => exact ⟨[op, b], hbytes.symm⟩

end DecodedFrom

/-- R350: an unrecognized instruction is encoded as its opcode byte, or that byte and its reg field. -/
theorem encode_of_unrecognized {i : Instr} (h : i.family = .unrecognized) :
    (∃ op, encode i = [op]) ∨ ∃ op reg, encode i = [op, modRMByte 0 reg 0] := by
  cases i <;> simp only [Instr.family, reduceCtorEq] at h
  all_goals first | exact .inl ⟨_, rfl⟩ | exact .inr ⟨_, _, rfl⟩

/-- Settles O1, by `decode_encode`. -/
theorem decodeOfEncode : Obligations.DecodeOfEncode := fun _ rest hwf => decode_encode hwf rest

/-- Settles O2: by `DecodedFrom.ofDecode`, a recognized instruction has only its own bytes. -/
theorem encodeOfDecode : Obligations.EncodeOfDecode := by
  intro bytes i rest hdecode hfam
  cases DecodedFrom.ofDecode hdecode with
  | own hwf hbytes => exact ⟨hwf, hbytes⟩
  | selector op b hx henc hbytes => exact absurd hx hfam

/-- Settles O3, by `DecodedFrom.ofDecode` and `encode_of_unrecognized`. -/
theorem unrecognizedDecodeKeepsSelector : Obligations.UnrecognizedDecodeKeepsSelector := by
  intro bytes i rest hdecode hfam
  cases DecodedFrom.ofDecode hdecode with
  | own hwf hbytes =>
    obtain ⟨op, henc⟩ | ⟨op, reg, henc⟩ := encode_of_unrecognized hfam
    · exact .inl ⟨op, henc, by rw [hbytes, henc]; rfl⟩
    · exact .inr ⟨op, modRMByte 0 reg 0, by rw [henc, regField_modRMByte], by rw [hbytes, henc]; rfl⟩
  | selector op b hx henc hbytes => exact .inr ⟨op, b, henc, hbytes⟩

/-- Settles O4: `Entry.read_length` bounds what the entry reads after its opcode byte, and what is left is the end of
the bytes (`DecodedFrom.suffix`). -/
theorem sixBytesDecode : Obligations.SixBytesDecode := by
  intro bytes hlen
  cases bytes with
  | nil => cases hlen
  | cons op bytes =>
    obtain ⟨i, rest, hread, hmost, hleast⟩ := (entryOf op).read_length (Nat.le_of_succ_le_succ hlen)
    have hrest := List.suffix_iff_eq_drop.mp (DecodedFrom.ofRead hread).suffix
    rw [List.length_cons] at hrest
    exact ⟨i, bytes.length + 1 - rest.length, by omega, by omega, hrest ▸ hread⟩

/-- Settles O5, by computation. -/
theorem sampleWordsDecode : Obligations.SampleWordsDecode :=
  ⟨rfl, rfl, rfl, rfl, rfl, rfl, rfl, rfl, rfl, rfl, rfl, rfl, rfl, rfl, rfl, rfl, rfl, rfl, rfl, rfl, rfl, rfl,
    rfl, rfl⟩

end Sys2Proof
end

section
/-! PROOF. The segment and offset of a memory operand in integer terms (spec/30_encoding.md R96 to R99), and the
two-operand instructions (spec/41_alu.md R166 to R177) whenever their r/m operand can be read. -/

namespace Sys2Proof.Machine

/-! ### Effective addresses -/

/-- R98: BP is what selects SS. -/
theorem State.baseSegment_eq_ite (s : State) (b : Base) :
    s.baseSegment b = if b ∈ [.bpSi, .bpDi, .bp] then s.ss else s.ds := by
  cases b <;> rfl

/-- R105: sign extension keeps the integer. -/
theorem signExtendByte_eq_ofInt (d : Byte) : signExtendByte d = BitVec.ofInt 16 d.toInt := rfl

/-! ### Two-operand instructions on a register -/

/-- R166: what an instruction whose destination is a byte register leaves. -/
theorem aluReg8_leaves (op : AluOp) (r : Reg8) (right : Byte) {s : State} (hw : s.mem.wf = true) :
    ∃ t, aluReg8 op r right s = .ok t ∧ op.Leaves8 (.reg r) (s.reg8 r) right s t := by
  rw [aluReg8_eq_aluRm8]
  exact aluRm8_of_read (rm := .reg r) right rfl hw

/-- R166: the same for a word register. -/
theorem aluReg16_leaves (op : AluOp) (r : Reg16) (right : Word) {s : State} (hw : s.mem.wf = true) :
    ∃ t, aluReg16 op r right s = .ok t ∧ op.Leaves16 (.reg r) (s.reg16 r) right s t := by
  rw [aluReg16_eq_aluRm16]
  exact aluRm16_of_read (rm := .reg r) right rfl hw

end Sys2Proof.Machine

namespace Sys2Proof

open Sys2Proof.Machine

/-- Settles O16: the r/m forms by `aluRm8_of_read`, the register forms by `aluReg8_leaves`. -/
theorem aluByteForms : Obligations.AluByteForms := by
  intro op s hinv
  obtain ⟨hw, -⟩ := Bool.and_eq_true_iff.mp hinv
  simp only [AluOp.exec_rm8R8, AluOp.exec_rm8Imm8, AluOp.exec_r8Rm8, AluOp.exec_alImm8, finish_eq_next]
  refine ⟨fun rm r left hread => aluRm8_of_read _ hread hw, fun rm imm left hread => aluRm8_of_read imm hread hw,
    fun rm r right hread => ?_, fun imm => aluReg8_leaves op .al imm hw⟩
  rw [aluReg8FromRm, hread]
  exact aluReg8_leaves op r right hw

/-- Settles O17: the r/m forms by `aluRm16_of_read`, the register forms by `aluReg16_leaves`; the byte immediate by
`signExtendByte_eq_ofInt`. -/
theorem aluWordForms : Obligations.AluWordForms := by
  intro op s hinv
  obtain ⟨hw, -⟩ := Bool.and_eq_true_iff.mp hinv
  simp only [AluOp.exec_rm16R16, AluOp.exec_rm16Imm16, AluOp.exec_rm16Simm8, AluOp.exec_r16Rm16, AluOp.exec_axImm16,
    finish_eq_next, ← signExtendByte_eq_ofInt]
  refine ⟨fun rm r left hread => aluRm16_of_read _ hread hw, fun rm imm left hread => aluRm16_of_read imm hread hw,
    fun rm imm left hread => aluRm16_of_read _ hread hw, fun rm r right hread => ?_,
    fun imm => aluReg16_leaves op .ax imm hw⟩
  rw [aluReg16FromRm, hread]
  exact aluReg16_leaves op r right hw

/-- Settles O6: integers are added as words are (`BitVec.ofInt_add`). -/
theorem effectiveAddress : Obligations.EffectiveAddress := by
  intro s b d8 d16 off seg sum
  have hseg : s.baseSegment b = seg := s.baseSegment_eq_ite b
  have hsum : s.baseValue b = BitVec.ofInt 16 sum := by
    cases b <;> simp [sum, State.baseValue, BitVec.ofInt_add]
  refine ⟨rfl, ?_, ?_, ?_⟩
  · rw [State.resolve, hseg, hsum]
  · rw [State.resolve, hseg, hsum, BitVec.ofInt_add, signExtendByte_eq_ofInt]
  · rw [State.resolve, hseg, hsum, BitVec.ofInt_add, BitVec.ofInt_natCast, BitVec.ofNat_toNat, BitVec.setWidth_eq]

end Sys2Proof
end

section
/-! PROOF. MOV (spec/40_data_movement.md R141 to R148): a store completes wherever its destination can be accessed, and
the source then reads back; a load is the read of its source, then one update of the state. -/

namespace Sys2Proof.Machine

/-- R141, R144: a byte store to an r/m operand that can be read completes, and the byte reads back. -/
theorem moveToRm8_of_read {rm : RM8} {old : Byte} {s : State} (v : Byte) (h : s.readRM8 rm = .ok old)
    (hw : s.mem.wf = true) :
    ∃ t, finish (moveToRm8 rm v s) = .next t ∧ t.readLoc8 (s.locate rm) = .ok v := by
  obtain ⟨t, hwrite, hread⟩ := State.writeLoc8_of_read v h rfl rfl hw
  exact ⟨t, finish_eq_next.mpr hwrite, hread⟩

/-- R141, R144, R145: the same for a word. -/
theorem moveToRm16_of_read {rm : RM16} {old : Word} {s : State} (v : Word) (h : s.readRM16 rm = .ok old)
    (hw : s.mem.wf = true) :
    ∃ t, finish (moveToRm16 rm v s) = .next t ∧ t.readLoc16 (s.locate rm) = .ok v := by
  obtain ⟨t, hwrite, hread⟩ := State.writeLoc16_of_read v h rfl rfl hw
  exact ⟨t, finish_eq_next.mpr hwrite, hread⟩

/-- R148: MOV [moffs16], AL is MOV r/m8, AL with the direct operand. -/
theorem exec_movMoffsAl (off : Word) (s : State) :
    exec (.movMoffsAl off) s = finish (moveToRm8 (.mem (.direct off)) (s.reg8 .al) s) := rfl

/-- R148: MOV [moffs16], AX is MOV r/m16, AX with the direct operand. -/
theorem exec_movMoffsAx (off : Word) (s : State) :
    exec (.movMoffsAx off) s = finish (moveToRm16 (.mem (.direct off)) s.ax s) := rfl

/-- An instruction that reads its source and then updates the state completes where the source can be read. -/
theorem finish_map_of_ok {α : Type} {x : Except Fault α} {v : α} (h : x = .ok v) (update : α → State) :
    finish (x.map update) = .next (update v) :=
  finish_eq_next.mpr (except_map_eq_ok.mpr ⟨v, h, rfl⟩)

end Sys2Proof.Machine

namespace Sys2Proof

open Sys2Proof.Machine

/-- Settles O19, by `moveToRm8_of_read` and `moveToRm16_of_read`; a store to a direct offset is the r/m form
with the operand `.direct`. -/
theorem movStores : Obligations.MovStores := by
  intro s hinv
  obtain ⟨hw, -⟩ := Bool.and_eq_true_iff.mp hinv
  refine ⟨fun rm old hread => ⟨fun r => moveToRm8_of_read _ hread hw, fun imm => moveToRm8_of_read imm hread hw⟩,
    fun rm old hread => ⟨fun r => moveToRm16_of_read _ hread hw, fun imm => moveToRm16_of_read imm hread hw,
      fun r => ?sreg⟩, fun off old hread => ?moffsAl, fun off old hread => ?moffsAx⟩
  case sreg =>
    rw [SReg.exec_movTo]
    exact moveToRm16_of_read _ hread hw
  case moffsAl =>
    rw [exec_movMoffsAl]
    exact moveToRm8_of_read (rm := .mem (.direct off)) _ hread hw
  case moffsAx =>
    rw [exec_movMoffsAx]
    exact moveToRm16_of_read (rm := .mem (.direct off)) _ hread hw

/-- Settles O20, by `finish_map_of_ok`; the immediate forms read nothing. -/
theorem movLoads : Obligations.MovLoads := fun s =>
  ⟨fun _ r _ hread => finish_map_of_ok hread (s.setReg8 r), fun _ r _ hread => finish_map_of_ok hread (s.setReg16 r),
    fun r imm => r.exec_movImm imm s, fun r imm => r.exec_movImm imm s,
    fun _ _ hread => finish_map_of_ok hread (s.setReg8 .al), fun _ _ hread => finish_map_of_ok hread (s.setReg16 .ax)⟩

/-- Settles O21, by `finish_map_of_ok`: `State.setSreg` of SS sets INTDELAY too, and the end of the instruction counts
it down once. -/
theorem movToSegmentRegister : Obligations.MovToSegmentRegister := fun s _ _ hread =>
  ⟨finish_map_of_ok hread (s.setSreg .es), finish_map_of_ok hread (s.setSreg .ds),
    finish_map_of_ok hread (s.setSreg .ss), State.endInstruction_intDelay _⟩

end Sys2Proof
end

section
/-! PROOF. The add, subtract and logical paths in integer terms (spec/41_alu.md R161 to R165), and INC and DEC (R178,
R179) whenever their operand can be read. -/

namespace Sys2Proof.Machine

/-! ### The three flag paths

Each path is `setSZP` of its result over `putCarries` of its carries, so that what is left to say is what the three
carries mean. -/

section

variable {w : Nat} {r : BitVec w} {fl : Word} {c a o : Bool}

theorem getFlag_cf_setSZP_putCarries : getFlag (setSZP r (putCarries fl c a o)) .cf = c := by
  simp [getFlag_setSZP, getFlag_putCarries]

theorem getFlag_af_setSZP_putCarries : getFlag (setSZP r (putCarries fl c a o)) .af = a := by
  simp [getFlag_setSZP, getFlag_putCarries]

theorem getFlag_of_setSZP_putCarries : getFlag (setSZP r (putCarries fl c a o)) .of_ = o := by
  simp [getFlag_setSZP, getFlag_putCarries]

end

section

variable {w : Nat}

/-- R161: bit `w` of the wide sum is the carry out of bit `w - 1`. -/
theorem testBit_sum (a b : BitVec w) (c : Bool) :
    (a.toNat + b.toNat + c.toNat).testBit w = decide (2 ^ w ≤ a.toNat + b.toNat + c.toNat) := by
  have hlt : a.toNat + b.toNat + c.toNat < 2 ^ (w + 1) := by
    have := c.toNat_le
    omega
  by_cases h : 2 ^ w ≤ a.toNat + b.toNat + c.toNat
  · rw [Nat.testBit_of_two_pow_le_and_two_pow_add_one_gt h hlt, decide_eq_true h]
  · rw [Nat.testBit_lt_two_pow (Nat.not_le.mp h), decide_eq_false h]

/-- R161, R163, R165: the flags the add path writes. -/
theorem addFlagsHold_addFlags (hw : 4 < w) (a b : BitVec w) (c : Bool) (fl : Word) :
    AddFlagsHold a b c fl (addFlags a b c fl).2 where
  cf := getFlag_cf_setSZP_putCarries.trans (testBit_sum a b c)
  af := getFlag_af_setSZP_putCarries.trans (nibble_carry hw a b c)
  of_ := getFlag_of_setSZP_putCarries.trans (add_overflow hw a b c _ rfl)
  result := resultFlags_setSZP _ _
  kept := getLsbD_addFlags a b c fl

/-- R162: the subtract path gives the difference of the integers. -/
theorem subFlags_fst (hw : 4 < w) (a b : BitVec w) (c : Bool) (fl : Word) :
    (subFlags a b c fl).1 = BitVec.ofInt w (a.toNat - b.toNat - c.toNat) := by
  obtain ⟨-, hdiff, -, -⟩ := wide_difference hw a b c
  exact hdiff

/-- R162, R163, R165: the flags the subtract path writes. -/
theorem subFlagsHold_subFlags (hw : 4 < w) (a b : BitVec w) (c : Bool) (fl : Word) :
    SubFlagsHold a b c fl (subFlags a b c fl).2 := by
  obtain ⟨hborrow, hdiff, hsum, hnat⟩ := wide_difference hw a b c
  exact {
    cf := getFlag_cf_setSZP_putCarries.trans hborrow
    af := getFlag_af_setSZP_putCarries.trans (nibble_borrow hw a b c _ hsum)
    of_ := getFlag_of_setSZP_putCarries.trans (sub_overflow hw a b c _ hnat)
    result := hdiff ▸ resultFlags_setSZP _ _
    kept := getLsbD_subFlags a b c fl }

/-- R164: the flags the logical path writes. -/
theorem logicFlagsHold_logicFlags (r : BitVec w) (fl : Word) : LogicFlagsHold r fl (logicFlags r fl) where
  cf := getFlag_cf_setSZP_putCarries
  af := getFlag_af_setSZP_putCarries
  of_ := getFlag_of_setSZP_putCarries
  result := resultFlags_setSZP _ _
  kept := getLsbD_logicFlags r fl

/-! ### INC and DEC -/

/-- R161: without a carry, the add path adds bit vectors. -/
theorem addFlags_fst_false (a b : BitVec w) (fl : Word) : (addFlags a b false fl).1 = a + b := rfl

/-- R162: without a borrow, the subtract path subtracts bit vectors. -/
theorem subFlags_fst_false (hw : 4 < w) (a b : BitVec w) (fl : Word) : (subFlags a b false fl).1 = a - b := by
  obtain ⟨-, -, hsum, -⟩ := wide_difference hw a b false
  exact eq_sub_of_add_eq (by simpa [subFlags] using hsum.symm)

/-- R178, R179: INC and DEC take the add and the subtract path with 1. -/
theorem incDecCompute_leaves (hw : 4 < w) (op : IncDec) (v : BitVec w) (fl : Word) :
    op.Leaves v (op.compute v fl).1 fl (op.compute v fl).2 := by
  cases op with
  | inc => exact ⟨_, rfl, addFlags_fst_false v 1 fl, addFlagsHold_addFlags hw v 1 false fl⟩
  | dec => exact ⟨_, rfl, subFlags_fst_false hw v 1 fl, subFlagsHold_subFlags hw v 1 false fl⟩

end

/-- R178, R179: what INC and DEC of a word register leave. -/
theorem incDecReg16_leaves (op : IncDec) (r : Reg16) (s : State) :
    ∃ t, finish (incDecReg16 op r s) = .next t ∧ op.Leaves (s.reg16 r) (t.reg16 r) s.flags t.flags := by
  refine ⟨_, rfl, ?_⟩
  rw [State.reg16_setReg16_self, State.setReg16_flags]
  exact incDecCompute_leaves (by decide) op (s.reg16 r) s.flags

/-- R178, R179: what INC and DEC of an r/m8 operand that can be read leave. -/
theorem incDecRm8_leaves (op : IncDec) {rm : RM8} {v : Byte} {s : State} (h : s.readRM8 rm = .ok v)
    (hw : s.mem.wf = true) :
    ∃ t res, finish (incDecRm8 op rm s) = .next t ∧ t.readLoc8 (s.locate rm) = .ok res ∧
      op.Leaves v res s.flags t.flags := by
  obtain ⟨t, hrun, hread, hflags⟩ := incDecRm8_of_read (op := op) h hw
  exact ⟨t, _, finish_eq_next.mpr hrun, hread, hflags ▸ incDecCompute_leaves (by decide) op v s.flags⟩

/-- R178, R179: the same for a word. -/
theorem incDecRm16_leaves (op : IncDec) {rm : RM16} {v : Word} {s : State} (h : s.readRM16 rm = .ok v)
    (hw : s.mem.wf = true) :
    ∃ t res, finish (incDecRm16 op rm s) = .next t ∧ t.readLoc16 (s.locate rm) = .ok res ∧
      op.Leaves v res s.flags t.flags := by
  obtain ⟨t, hrun, hread, hflags⟩ := incDecRm16_of_read (op := op) h hw
  exact ⟨t, _, finish_eq_next.mpr hrun, hread, hflags ▸ incDecCompute_leaves (by decide) op v s.flags⟩

end Sys2Proof.Machine

namespace Sys2Proof

open Sys2Proof.Machine

/-- Settles O13, by `addFlagsHold_addFlags`: both widths have more than one nibble. -/
theorem addFlagsMeaning : Obligations.AddFlagsMeaning := fun _ hwidth a b c fl =>
  ⟨rfl, addFlagsHold_addFlags (by omega) a b c fl, rfl, rfl⟩

/-- Settles O14, by `subFlags_fst` and `subFlagsHold_subFlags`; that CMP alone discards its result, by cases. -/
theorem subFlagsMeaning : Obligations.SubFlagsMeaning := fun w hwidth a b c fl =>
  have hw : 4 < w := by omega
  ⟨subFlags_fst hw a b c fl, subFlagsHold_subFlags hw a b c fl, rfl, rfl, rfl,
    fun op => by cases op <;> decide⟩

/-- Settles O15, by `logicFlagsHold_logicFlags` of the three results. -/
theorem logicFlagsMeaning : Obligations.LogicFlagsMeaning := fun _ _ a b fl =>
  ⟨rfl, logicFlagsHold_logicFlags (a ||| b) fl, rfl, logicFlagsHold_logicFlags (a &&& b) fl,
    rfl, logicFlagsHold_logicFlags (a ^^^ b) fl⟩

/-- Settles O18, by what INC and DEC leave in a word register, in a byte operand and in a word operand. -/
theorem incDecForms : Obligations.IncDecForms := by
  intro s hinv
  obtain ⟨hw, -⟩ := Bool.and_eq_true_iff.mp hinv
  simp only [Reg16.exec_inc, Reg16.exec_dec]
  exact ⟨fun r => incDecReg16_leaves .inc r s, fun r => incDecReg16_leaves .dec r s,
    fun _ _ hread => incDecRm8_leaves .inc hread hw, fun _ _ hread => incDecRm8_leaves .dec hread hw,
    fun _ _ hread => incDecRm16_leaves .inc hread hw, fun _ _ hread => incDecRm16_leaves .dec hread hw⟩

end Sys2Proof
end

section
/-! PROOF. DAA, DAS, AAA, AAS, AAM and AAD (spec/42_bcd.md R200 to R206): the corrections and the two base conversions
in integer terms, and what the two shared writes of the family leave. -/

namespace Sys2Proof.Machine

/-! ### The tests and the corrected AL in integer terms -/

theorem toNat_and_nibble (v : Byte) : (v &&& 0x0F).toNat = v.toNat % 16 :=
  Nat.and_two_pow_sub_one_eq_mod v.toNat 4

/-- R201 to R204: the low nibble is the rest modulo 16. -/
theorem nibbleOver_eq (al : Byte) (af : Bool) : nibbleOver al af = (decide (9 < al.toNat % 16) || af) := by
  rw [nibbleOver, toNat_and_nibble]

/-- A byte to which `d` is added under a condition. -/
theorem toNat_ite_add (b : Bool) (v d : Byte) :
    (if b then v + d else v).toNat = (v.toNat + if b then d.toNat else 0) % 256 := by
  cases b with
  | false => exact (Nat.mod_eq_of_lt v.isLt).symm
  | true => exact BitVec.toNat_add v d

/-- A byte from which `d` is subtracted under a condition. -/
theorem toNat_ite_sub (b : Bool) (v d : Byte) :
    (if b then v - d else v).toNat = (v.toNat + 256 - if b then d.toNat else 0) % 256 := by
  have hv := v.isLt
  have hd := d.isLt
  cases b with
  | false => simp [Nat.mod_eq_of_lt hv]
  | true =>
    simp only [BitVec.toNat_sub, if_true]
    omega

/-- R201: both corrections are added, modulo 256. -/
theorem toNat_daaCorrection_al (al : Byte) (cf af : Bool) :
    (daaCorrection al cf af).al.toNat =
      (al.toNat + (if nibbleOver al af then 6 else 0) + if byteOver al cf then 0x60 else 0) % 256 := by
  simp [daaCorrection, toNat_ite_add]

/-- R202: both corrections are subtracted, modulo 256. -/
theorem toNat_dasCorrection_al (al : Byte) (cf af : Bool) :
    (dasCorrection al cf af).al.toNat =
      (al.toNat + 256 - (if nibbleOver al af then 6 else 0) - if byteOver al cf then 0x60 else 0) % 256 := by
  simp only [dasCorrection, toNat_ite_sub, BitVec.reduceToNat]
  split <;> split <;> omega

/-- R203, R204: the correction is added, modulo 16. -/
theorem toNat_asciiCorrection_al (al : Byte) (af : Bool) (six : Byte) :
    (asciiCorrection al af six).al.toNat = (al.toNat + if nibbleOver al af then six.toNat else 0) % 16 := by
  rw [asciiCorrection, toNat_and_nibble, toNat_ite_add, Nat.mod_mod_of_dvd _ (by decide)]

/-! ### What a correction leaves -/

section

variable (c : Correction) (s : State)

@[simp] theorem applyCorrection_al : (applyCorrection c s).reg8 .al = c.al := by
  simp [applyCorrection]

theorem applyCorrection_cf : getFlag (applyCorrection c s).flags .cf = c.cf := by
  simp [applyCorrection, getFlag_cf_setSZP_putCarries]

theorem applyCorrection_af : getFlag (applyCorrection c s).flags .af = c.af := by
  simp [applyCorrection, getFlag_af_setSZP_putCarries]

/-- R200: ZF, SF and PF are those of the corrected AL. -/
theorem resultFlags_applyCorrection : ResultFlags c.al (applyCorrection c s).flags := by
  simp [applyCorrection, resultFlags_setSZP]

end

@[simp] theorem State.reg8_al_setReg8_ah (s : State) (v : Byte) : (s.setReg8 .ah v).reg8 .al = s.reg8 .al :=
  s.reg8_setReg8 .ah .al v

/-! ### What a base conversion leaves -/

section

variable (ah al : Byte) (s : State)

@[simp] theorem putBaseResult_al : (putBaseResult ah al s).reg8 .al = al := by
  simp [putBaseResult]

@[simp] theorem putBaseResult_ah : (putBaseResult ah al s).reg8 .ah = ah := by
  simp [putBaseResult, State.reg8_setReg8]

@[simp] theorem putBaseResult_diag : (putBaseResult ah al s).diag = s.diag := by
  simp [putBaseResult]

/-- R205, R206: ZF, SF and PF are those of the final AL. -/
theorem resultFlags_putBaseResult : ResultFlags al (putBaseResult ah al s).flags := by
  simp [putBaseResult, resultFlags_setSZP]

end

theorem logBase_diag (base : Byte) (s : State) :
    (logBase base s).diag = s.diag ++ if base = 10 then [] else [.unusualBase base] := by
  rw [logBase, usualBase]
  split
  · rw [List.append_nil]
  · rfl

/-- R205: AAM with another base than 0. -/
theorem exec_aam_of_ne_zero {base : Byte} (h : base ≠ 0) (s : State) :
    exec (.aam base) s = .next (putBaseResult (s.reg8 .al / base) (s.reg8 .al % base) (logBase base s)) :=
  finish_eq_next.mpr (if_neg h)

end Sys2Proof.Machine

namespace Sys2Proof

open Sys2Proof.Machine

/-- Settles O23, by `toNat_daaCorrection_al` and `toNat_dasCorrection_al`; the flags are the correction's. -/
theorem decimalAdjust : Obligations.DecimalAdjust := by
  intro s al low high
  have hlow : nibbleOver (s.reg8 .al) (s.flag .af) = low := nibbleOver_eq _ _
  have hhigh : byteOver (s.reg8 .al) (s.flag .cf) = high := rfl
  constructor
  · refine ⟨_, rfl, ?_⟩
    rw [applyCorrection_al, toNat_daaCorrection_al, hlow, hhigh]
    exact ⟨rfl, applyCorrection_cf _ s, (applyCorrection_af _ s).trans hlow, resultFlags_applyCorrection _ s⟩
  · refine ⟨_, rfl, ?_⟩
    rw [applyCorrection_al, toNat_dasCorrection_al, ← hlow, hhigh]
    exact ⟨rfl, applyCorrection_cf _ s, applyCorrection_af _ s, resultFlags_applyCorrection _ s⟩

/-- Settles O24, by `toNat_asciiCorrection_al`: AAS adds -6, which is 10 modulo 16. The write of AH comes last and
leaves AL and the flags. -/
theorem asciiAdjust : Obligations.AsciiAdjust := by
  intro s al ah low
  have hlow : nibbleOver (s.reg8 .al) (s.flag .af) = low := nibbleOver_eq _ _
  constructor
  · refine ⟨_, rfl, ?_⟩
    rw [State.reg8_al_setReg8_ah, State.reg8_setReg8_self, State.setReg8_flags, applyCorrection_al,
      toNat_asciiCorrection_al, toNat_ite_add, ← hlow]
    exact ⟨rfl, rfl, applyCorrection_cf _ s, applyCorrection_af _ s, resultFlags_applyCorrection _ s⟩
  · refine ⟨_, rfl, ?_⟩
    rw [State.reg8_al_setReg8_ah, State.reg8_setReg8_self, State.setReg8_flags, applyCorrection_al,
      toNat_asciiCorrection_al, toNat_ite_sub, ← hlow]
    refine ⟨?_, rfl, applyCorrection_cf _ s, applyCorrection_af _ s, resultFlags_applyCorrection _ s⟩
    have hsix : (-6 : Byte).toNat = 250 := rfl
    rw [hsix]
    split <;> omega

/-- Settles O25, by what `putBaseResult` and `logBase` leave; base 0 by `exec_aam_zero`. -/
theorem baseConversion : Obligations.BaseConversion := by
  intro s base al ah log
  refine ⟨fun hbase => ⟨_, exec_aam_of_ne_zero hbase s, ?_⟩, fun hbase => hbase ▸ exec_aam_zero s, ⟨_, rfl, ?_⟩⟩
  · rw [putBaseResult_ah, putBaseResult_al, putBaseResult_diag, logBase_diag]
    exact ⟨BitVec.toNat_udiv, BitVec.toNat_umod, resultFlags_putBaseResult _ _ _, rfl⟩
  · rw [putBaseResult_ah, putBaseResult_al, putBaseResult_diag, logBase_diag]
    refine ⟨?_, rfl, resultFlags_putBaseResult _ _ _, rfl⟩
    rw [BitVec.toNat_add, BitVec.toNat_mul, Nat.add_mod_mod]

end Sys2Proof
end

section
/-! PROOF. The Shift/Rotate Engine (spec/43_shift_rotate.md R220 to R237): its steps in closed form, OF of a count
of 1, and every shift and rotate whenever its operand can be read. -/

namespace Sys2Proof.Machine

section

variable {w : Nat}

/-! ### Rotations add up -/

theorem rotateLeft_zero (v : BitVec w) : v.rotateLeft 0 = v := by
  simp [BitVec.rotateLeft_def, BitVec.ushiftRight_eq_zero (Nat.le_refl w)]

theorem rotateRight_zero (v : BitVec w) : v.rotateRight 0 = v := by
  simp [BitVec.rotateRight_def, BitVec.shiftLeft_eq_zero (Nat.le_refl w)]

theorem rotateLeft_rotateLeft (v : BitVec w) (m n : Nat) : (v.rotateLeft m).rotateLeft n = v.rotateLeft (m + n) := by
  refine BitVec.eq_of_getMsbD_eq fun i hi => ?_
  have hmod : (n + i) % w < w := Nat.mod_lt _ (by omega)
  simp [BitVec.getMsbD_rotateLeft, hi, hmod, Nat.add_assoc]

/-- Bit `i` of a rotation to the right is `n` places higher in the value, counted around. -/
theorem getLsbD_rotateRight_eq_mod (v : BitVec w) (n : Nat) {i : Nat} (hi : i < w) :
    (v.rotateRight n).getLsbD i = v.getLsbD ((n + i) % w) := by
  have hn : n % w < w := Nat.mod_lt _ (by omega)
  rw [BitVec.getLsbD_rotateRight, ← Nat.mod_add_mod n w i]
  by_cases h : i < w - n % w
  · have hstay : (n % w + i) % w = n % w + i := Nat.mod_eq_of_lt (by omega)
    rw [decide_eq_true h, cond_true, hstay]
  · have hwrap : (n % w + i) % w = i - (w - n % w) := by
      rw [Nat.mod_eq_sub_mod (by omega), Nat.mod_eq_of_lt (by omega)]
      omega
    rw [decide_eq_false h, cond_false, decide_eq_true hi, Bool.true_and, hwrap]

theorem rotateRight_rotateRight (v : BitVec w) (m n : Nat) :
    (v.rotateRight m).rotateRight n = v.rotateRight (m + n) := by
  refine BitVec.eq_of_getLsbD_eq fun i hi => ?_
  have hmod : (n + i) % w < w := Nat.mod_lt _ (by omega)
  rw [getLsbD_rotateRight_eq_mod _ _ hi, getLsbD_rotateRight_eq_mod _ _ hmod, getLsbD_rotateRight_eq_mod _ _ hi,
    Nat.add_mod_mod, Nat.add_assoc]

/-! ### The bits of one step -/

theorem getLsbD_rotateLeft_one (hw : 1 < w) (v : BitVec w) {i : Nat} (hi : i < w) :
    (v.rotateLeft 1).getLsbD i = if i = 0 then v.getLsbD (w - 1) else v.getLsbD (i - 1) := by
  rw [BitVec.getLsbD_rotateLeft, Nat.mod_eq_of_lt hw, decide_eq_true hi]
  cases i <;> simp

theorem getLsbD_rotateRight_one (hw : 1 < w) (v : BitVec w) {i : Nat} (hi : i < w) :
    (v.rotateRight 1).getLsbD i = if i = w - 1 then v.getLsbD 0 else v.getLsbD (1 + i) := by
  rw [getLsbD_rotateRight_eq_mod v 1 hi]
  by_cases h : i = w - 1
  · rw [if_pos h, h, Nat.add_sub_cancel' (by omega), Nat.mod_self]
  · rw [if_neg h, Nat.mod_eq_of_lt (by omega)]

theorem getLsbD_bitValue (b : Bool) {i : Nat} (hi : i < w) : (bitValue w b).getLsbD i = (decide (i = 0) && b) := by
  cases b with
  | false => simp [bitValue]
  | true => cases i <;> simp [bitValue, hi]

/-- R230, R232: one place to the left, with `b` as bit 0. -/
theorem getLsbD_shiftLeft_or_bitValue (v : BitVec w) (b : Bool) {i : Nat} (hi : i < w) :
    ((v <<< 1) ||| bitValue w b).getLsbD i = if i = 0 then b else v.getLsbD (i - 1) := by
  rw [BitVec.getLsbD_or, BitVec.getLsbD_shiftLeft, getLsbD_bitValue b hi, decide_eq_true hi]
  cases i <;> simp

/-- A bit in the top place. -/
theorem getLsbD_bitValue_shiftLeft (b : Bool) {i : Nat} (hi : i < w) :
    (bitValue w b <<< (w - 1)).getLsbD i = (decide (i = w - 1) && b) := by
  rw [BitVec.getLsbD_shiftLeft, decide_eq_true hi, getLsbD_bitValue b (by omega)]
  by_cases h : i = w - 1
  · simp [h]
  · simp [h, show i < w - 1 by omega]

/-- R231, R233: one place to the right, with `b` as the top bit. -/
theorem getLsbD_ushiftRight_or_bitValue (v : BitVec w) (b : Bool) {i : Nat} (hi : i < w) :
    ((v >>> 1) ||| (bitValue w b <<< (w - 1))).getLsbD i = if i = w - 1 then b else v.getLsbD (1 + i) := by
  rw [BitVec.getLsbD_or, BitVec.getLsbD_ushiftRight, getLsbD_bitValue_shiftLeft b hi]
  by_cases h : i = w - 1
  · simp [h, BitVec.getLsbD_of_ge v (1 + (w - 1)) (by omega)]
  · simp [h]

/-- R237: the mask of the sign bit leaves the top bit in its place. -/
theorem and_bitValue_shiftLeft (v : BitVec w) :
    v &&& (bitValue w true <<< (w - 1)) = bitValue w v.msb <<< (w - 1) := by
  refine BitVec.eq_of_getLsbD_eq fun i hi => ?_
  rw [BitVec.getLsbD_and, getLsbD_bitValue_shiftLeft _ hi, getLsbD_bitValue_shiftLeft _ hi,
    BitVec.msb_eq_getLsbD_last, Bool.and_true]
  by_cases h : i = w - 1 <;> simp [h]

/-! ### The top two bits after one step -/

theorem msb_shiftLeft_or_bitValue (hw : 1 < w) (v : BitVec w) (b : Bool) :
    ((v <<< 1) ||| bitValue w b).msb = v.getLsbD (w - 2) := by
  rw [BitVec.msb_eq_getLsbD_last, getLsbD_shiftLeft_or_bitValue v b (by omega), if_neg (by omega), Nat.sub_sub]

theorem msb_shiftLeft_one (hw : 1 < w) (v : BitVec w) : (v <<< 1).msb = v.getLsbD (w - 2) := by
  simpa [bitValue] using msb_shiftLeft_or_bitValue hw v false

theorem msb_ushiftRight_or_bitValue (hw : 1 < w) (v : BitVec w) (b : Bool) :
    ((v >>> 1) ||| (bitValue w b <<< (w - 1))).msb = b := by
  rw [BitVec.msb_eq_getLsbD_last, getLsbD_ushiftRight_or_bitValue v b (by omega), if_pos rfl]

theorem getLsbD_ushiftRight_one_under_top (hw : 1 < w) (v : BitVec w) : (v >>> 1).getLsbD (w - 2) = v.msb := by
  rw [BitVec.getLsbD_ushiftRight, BitVec.msb_eq_getLsbD_last, show 1 + (w - 2) = w - 1 by omega]

theorem getLsbD_ushiftRight_or_bitValue_under_top (hw : 1 < w) (v : BitVec w) (b : Bool) :
    ((v >>> 1) ||| (bitValue w b <<< (w - 1))).getLsbD (w - 2) = v.msb := by
  rw [BitVec.getLsbD_or, getLsbD_ushiftRight_one_under_top hw, getLsbD_bitValue_shiftLeft b (by omega),
    decide_eq_false (by omega), Bool.false_and, Bool.or_false]

/-! ### The count -/

/-- R221: the mask of 5 bits is the rest modulo 32. -/
theorem maskedCount_eq_mod (count : Byte) : maskedCount count = count.toNat % 32 :=
  Nat.and_two_pow_sub_one_eq_mod count.toNat 5

/-! ### The operand and CF as one value -/

/-- R223: the operand with CF above its top bit. -/
def withCarry (v : BitVec w) (c : Bool) : BitVec (1 + w) := BitVec.ofBool c ++ v

theorem getLsbD_withCarry (v : BitVec w) (c : Bool) {i : Nat} (hi : i < 1 + w) :
    (withCarry v c).getLsbD i = if i = w then c else v.getLsbD i := by
  rw [withCarry, BitVec.getLsbD_append]
  by_cases h : i = w
  · simp [h]
  · rw [if_neg h, if_pos (show i < w by omega)]

end

end Sys2Proof.Machine

namespace Sys2Proof.ShiftOp

open Sys2Proof.Machine

section

variable {w : Nat}

/-! ### The steps in closed form

Of each operation: one step, then the induction over the steps after it. -/

theorem rol_step (hw : 1 < w) (v : BitVec w) (c : Bool) :
    ShiftOp.rol.step v c = (v.rotateLeft 1, (v.rotateLeft 1).getLsbD 0) := by
  refine Prod.ext (BitVec.eq_of_getLsbD_eq fun i hi => ?_) ?_
  · rw [getLsbD_rotateLeft_one hw v hi, ← BitVec.msb_eq_getLsbD_last]
    exact getLsbD_shiftLeft_or_bitValue v v.msb hi
  · rw [getLsbD_rotateLeft_one hw v (by omega), ← BitVec.msb_eq_getLsbD_last]
    rfl

/-- R230: ROL rotates; CF is the new bit 0. -/
theorem rol_steps_succ (hw : 1 < w) (n : Nat) (v : BitVec w) (c : Bool) :
    ShiftOp.rol.steps (n + 1) v c = (v.rotateLeft (n + 1), (v.rotateLeft (n + 1)).getLsbD 0) := by
  induction n generalizing v c with
  | zero => exact rol_step hw v c
  | succ n ih => rw [steps, ih, rol_step hw, rotateLeft_rotateLeft, Nat.add_comm 1 (n + 1)]

theorem ror_step (hw : 1 < w) (v : BitVec w) (c : Bool) :
    ShiftOp.ror.step v c = (v.rotateRight 1, (v.rotateRight 1).getLsbD (w - 1)) := by
  refine Prod.ext (BitVec.eq_of_getLsbD_eq fun i hi => ?_) ?_
  · rw [getLsbD_rotateRight_one hw v hi]
    exact getLsbD_ushiftRight_or_bitValue v (v.getLsbD 0) hi
  · rw [getLsbD_rotateRight_one hw v (by omega), if_pos rfl]
    rfl

/-- R231: ROR rotates; CF is the new top bit. -/
theorem ror_steps_succ (hw : 1 < w) (n : Nat) (v : BitVec w) (c : Bool) :
    ShiftOp.ror.steps (n + 1) v c = (v.rotateRight (n + 1), (v.rotateRight (n + 1)).getLsbD (w - 1)) := by
  induction n generalizing v c with
  | zero => exact ror_step hw v c
  | succ n ih => rw [steps, ih, ror_step hw, rotateRight_rotateRight, Nat.add_comm 1 (n + 1)]

theorem withCarry_rcl_step (hw : 1 < w) (v : BitVec w) (c : Bool) :
    withCarry (ShiftOp.rcl.step v c).1 (ShiftOp.rcl.step v c).2 = (withCarry v c).rotateLeft 1 := by
  refine BitVec.eq_of_getLsbD_eq fun i hi => ?_
  rw [getLsbD_withCarry _ _ hi, getLsbD_rotateLeft_one (by omega) _ hi, Nat.add_sub_cancel_left,
    getLsbD_withCarry _ _ (by omega), getLsbD_withCarry _ _ (by omega), if_pos rfl,
    if_neg (show i - 1 ≠ w by omega)]
  by_cases h : i = w
  · rw [if_pos h, if_neg (by omega), h, ← BitVec.msb_eq_getLsbD_last]
    rfl
  · rw [if_neg h]
    exact getLsbD_shiftLeft_or_bitValue v c (by omega)

/-- R232: RCL rotates the operand and CF. -/
theorem withCarry_rcl_steps (hw : 1 < w) (n : Nat) (v : BitVec w) (c : Bool) :
    withCarry (ShiftOp.rcl.steps n v c).1 (ShiftOp.rcl.steps n v c).2 = (withCarry v c).rotateLeft n := by
  induction n generalizing v c with
  | zero => exact (rotateLeft_zero _).symm
  | succ n ih => rw [steps, ih, withCarry_rcl_step hw, rotateLeft_rotateLeft, Nat.add_comm 1 n]

theorem withCarry_rcr_step (hw : 1 < w) (v : BitVec w) (c : Bool) :
    withCarry (ShiftOp.rcr.step v c).1 (ShiftOp.rcr.step v c).2 = (withCarry v c).rotateRight 1 := by
  refine BitVec.eq_of_getLsbD_eq fun i hi => ?_
  rw [getLsbD_withCarry _ _ hi, getLsbD_rotateRight_one (by omega) _ hi, Nat.add_sub_cancel_left,
    getLsbD_withCarry _ _ (by omega), if_neg (show 0 ≠ w by omega)]
  by_cases h : i = w
  · rw [if_pos h, if_pos h]
    rfl
  · rw [if_neg h, if_neg h, getLsbD_withCarry _ _ (by omega)]
    refine (getLsbD_ushiftRight_or_bitValue v c (by omega)).trans (if_congr ?_ rfl rfl)
    omega

/-- R233: RCR rotates the operand and CF. -/
theorem withCarry_rcr_steps (hw : 1 < w) (n : Nat) (v : BitVec w) (c : Bool) :
    withCarry (ShiftOp.rcr.steps n v c).1 (ShiftOp.rcr.steps n v c).2 = (withCarry v c).rotateRight n := by
  induction n generalizing v c with
  | zero => exact (rotateRight_zero _).symm
  | succ n ih => rw [steps, ih, withCarry_rcr_step hw, rotateRight_rotateRight, Nat.add_comm 1 n]

/-- R234: SHL shifts left; CF is the last bit shifted out, 0 beyond the width. -/
theorem shl_steps_succ (hw : 1 < w) (n : Nat) (v : BitVec w) (c : Bool) :
    ShiftOp.shl.steps (n + 1) v c = (v <<< (n + 1), decide (n + 1 ≤ w) && v.getLsbD (w - (n + 1))) := by
  induction n generalizing v c with
  | zero =>
    rw [Nat.zero_add, decide_eq_true hw.le, Bool.true_and, ← BitVec.msb_eq_getLsbD_last]
    rfl
  | succ n ih =>
    have hcf : (decide (n + 1 ≤ w) && (v <<< 1).getLsbD (w - (n + 1))) =
        (decide (n + 2 ≤ w) && v.getLsbD (w - (n + 2))) := by
      rw [BitVec.getLsbD_shiftLeft, Nat.sub_sub]
      by_cases h : n + 2 ≤ w
      · simp [h, show n + 1 ≤ w by omega, show w - (n + 1) < w by omega, show ¬w - (n + 1) < 1 by omega]
      · simp [h, show w - (n + 1) < 1 by omega]
    rw [steps, ih]
    refine Prod.ext ?_ hcf
    rw [Nat.add_comm (n + 1) 1, BitVec.shiftLeft_add v 1 (n + 1)]
    rfl

/-- R235: SHR shifts right; CF is the last bit shifted out. -/
theorem shr_steps_succ (n : Nat) (v : BitVec w) (c : Bool) :
    ShiftOp.shr.steps (n + 1) v c = (v >>> (n + 1), v.getLsbD n) := by
  induction n generalizing v c with
  | zero => rfl
  | succ n ih =>
    rw [steps, ih]
    simp only [step, BitVec.getLsbD_ushiftRight, ← BitVec.shiftRight_add, Nat.add_comm 1]

theorem sar_step (v : BitVec w) (c : Bool) : ShiftOp.sar.step v c = (v.sshiftRight 1, v.getLsbD 0) := by
  refine Prod.ext (BitVec.eq_of_getLsbD_eq fun i hi => ?_) rfl
  rw [step, and_bitValue_shiftLeft, getLsbD_ushiftRight_or_bitValue _ _ hi, BitVec.getLsbD_sshiftRight,
    decide_eq_false (Nat.not_le.mpr hi)]
  by_cases h : i = w - 1
  · rw [if_pos h, if_neg (by omega)]
    rfl
  · rw [if_neg h, if_pos (by omega)]
    rfl

/-- R237: SAR shifts right and keeps the sign; CF is the last bit shifted out, the sign beyond the width. -/
theorem sar_steps_succ (hw : 1 < w) (n : Nat) (v : BitVec w) (c : Bool) :
    ShiftOp.sar.steps (n + 1) v c = (v.sshiftRight (n + 1), if n + 1 ≤ w then v.getLsbD n else v.msb) := by
  induction n generalizing v c with
  | zero =>
    rw [Nat.zero_add, if_pos hw.le]
    exact sar_step v c
  | succ n ih =>
    have hcf : (if n + 1 ≤ w then (v.sshiftRight 1).getLsbD n else (v.sshiftRight 1).msb) =
        if n + 1 + 1 ≤ w then v.getLsbD (n + 1) else v.msb := by
      rw [BitVec.msb_sshiftRight, BitVec.getLsbD_sshiftRight, Nat.add_comm 1 n]
      by_cases h : n + 1 + 1 ≤ w
      · simp [h, show n + 1 ≤ w by omega, show n + 1 < w by omega, show ¬w ≤ n by omega]
      · have hlast : ¬n + 1 < w := h
        rw [if_neg h, if_neg hlast]
        split
        · rw [decide_eq_false (by omega)]
          rfl
        · rfl
    rw [steps, ih, sar_step, hcf, ← BitVec.sshiftRight_add, Nat.add_comm 1 (n + 1)]

/-- R236: SAL is SHL. -/
theorem sal_steps (n : Nat) (v : BitVec w) (c : Bool) : ShiftOp.sal.steps n v c = ShiftOp.shl.steps n v c := by
  induction n generalizing v c with
  | zero => rfl
  | succ n ih => exact ih _ _

theorem sal_compute (v : BitVec w) (count : Byte) (fl : Word) :
    ShiftOp.sal.compute v count fl = ShiftOp.shl.compute v count fl := by
  rw [compute, sal_steps]
  rfl

end

/-! ### What an instruction leaves -/

/-- R225: the operations that also write ZF, SF, PF and AF. -/
theorem isShift_iff (op : ShiftOp) : op.isShift = true ↔ op ∈ [.shl, .shr, .sal, .sar] := by
  cases op <;> decide

theorem isShift_eq_false_iff (op : ShiftOp) : op.isShift = false ↔ op ∈ [.rol, .ror, .rcl, .rcr] := by
  cases op <;> decide

section

variable {w : Nat} (op : ShiftOp) (v : BitVec w) (count : Byte) (fl : Word)

/-- R224, R225: OF is written last, CF before it, and the other flags by the logical path of a shift only. -/
theorem getFlag_compute (f : Flag) :
    getFlag (op.compute v count fl).2 f =
      if f = .of_ then
        if count = 1 then op.overflowOne (op.compute v count fl).1 (op.steps (maskedCount count) v (getFlag fl .cf)).2
        else false
      else if f = .cf then (op.steps (maskedCount count) v (getFlag fl .cf)).2
      else getFlag (if op.isShift then logicFlags (op.compute v count fl).1 fl else fl) f := by
  simp only [compute, getFlag_putFlag, ofMulti]

theorem getFlag_cf_compute :
    getFlag (op.compute v count fl).2 .cf = (op.steps (count.toNat % 32) v (getFlag fl .cf)).2 := by
  rw [getFlag_compute, if_neg (by decide), if_pos rfl, maskedCount_eq_mod]

theorem getFlag_of_compute :
    getFlag (op.compute v count fl).2 .of_ =
      if count = 1 then op.overflowOne (op.compute v count fl).1 (getFlag (op.compute v count fl).2 .cf)
      else false := by
  rw [getFlag_compute, if_pos rfl, getFlag_cf_compute, maskedCount_eq_mod]

/-- R225: a shift leaves ZF, SF, PF and AF as the logical path does, and a rotate keeps them. -/
theorem getFlag_compute_of_mem {f : Flag} (hf : f ∈ [Flag.zf, .sf, .pf, .af]) :
    getFlag (op.compute v count fl).2 f =
      getFlag (if op.isShift then logicFlags (op.compute v count fl).1 fl else fl) f := by
  have hne : f ≠ .of_ ∧ f ≠ .cf := by
    revert hf
    cases f <;> decide
  obtain ⟨hof, hcf⟩ := hne
  rw [getFlag_compute, if_neg hof, if_neg hcf]

/-- R224 to R226: the result and the flags of a shift or rotate. -/
theorem compute_leaves : op.Leaves v count (op.compute v count fl).1 fl (op.compute v count fl).2 where
  result := by rw [← maskedCount_eq_mod]; rfl
  cf := op.getFlag_cf_compute v count fl
  of_ := op.getFlag_of_compute v count fl
  shifts h := by
    have hflag {f : Flag} (hf : f ∈ [Flag.zf, .sf, .pf, .af]) :
        getFlag (op.compute v count fl).2 f = getFlag (logicFlags (op.compute v count fl).1 fl) f := by
      rw [getFlag_compute_of_mem op v count fl hf, if_pos (op.isShift_iff.mpr h)]
    obtain ⟨-, haf, -, ⟨hzf, hsf, hpf⟩, -⟩ := logicFlagsHold_logicFlags (op.compute v count fl).1 fl
    exact ⟨⟨(hflag (by decide)).trans hzf, (hflag (by decide)).trans hsf, (hflag (by decide)).trans hpf⟩,
      (hflag (by decide)).trans haf⟩
  rotates h f hf := by
    rw [getFlag_compute_of_mem op v count fl hf, op.isShift_eq_false_iff.mpr h, if_neg Bool.false_ne_true]
  kept := op.getLsbD_compute v count fl

end

end Sys2Proof.ShiftOp

namespace Sys2Proof.Machine

/-- R221, R226: what a shift or rotate of an r/m8 operand that can be read leaves, for a count that is not 0
modulo 32. -/
theorem shiftRm8_leaves (op : ShiftOp) {rm : RM8} {v count : Byte} {s : State} (hc : count.toNat % 32 ≠ 0)
    (h : s.readRM8 rm = .ok v) (hw : s.mem.wf = true) :
    ∃ t res, finish (shiftRm8 op rm count s) = .next t ∧ t.readLoc8 (s.locate rm) = .ok res ∧
      op.Leaves v count res s.flags t.flags := by
  rw [← maskedCount_eq_mod] at hc
  obtain ⟨t, hrun, hread, hflags⟩ := shiftRm8_of_read (op := op) hc h hw
  exact ⟨t, _, finish_eq_next.mpr hrun, hread, hflags ▸ op.compute_leaves v count s.flags⟩

/-- R221, R226: the same for a word. -/
theorem shiftRm16_leaves (op : ShiftOp) {rm : RM16} {v : Word} {count : Byte} {s : State}
    (hc : count.toNat % 32 ≠ 0) (h : s.readRM16 rm = .ok v) (hw : s.mem.wf = true) :
    ∃ t res, finish (shiftRm16 op rm count s) = .next t ∧ t.readLoc16 (s.locate rm) = .ok res ∧
      op.Leaves v count res s.flags t.flags := by
  rw [← maskedCount_eq_mod] at hc
  obtain ⟨t, hrun, hread, hflags⟩ := shiftRm16_of_read (op := op) hc h hw
  exact ⟨t, _, finish_eq_next.mpr hrun, hread, hflags ▸ op.compute_leaves v count s.flags⟩

/-- R221: a count of 0 modulo 32 changes nothing, and reads nothing. -/
theorem shiftRm_of_count_zero (op : ShiftOp) (rm8 : RM8) (rm16 : RM16) {count : Byte} (hc : count.toNat % 32 = 0)
    (s : State) :
    finish (shiftRm8 op rm8 count s) = .next s ∧ finish (shiftRm16 op rm16 count s) = .next s := by
  rw [← maskedCount_eq_mod] at hc
  exact ⟨finish_eq_next.mpr (if_pos hc), finish_eq_next.mpr (if_pos hc)⟩

/-- R236: SAL of an r/m8 operand is SHL. -/
theorem shiftRm8_sal (rm : RM8) (count : Byte) (s : State) : shiftRm8 .sal rm count s = shiftRm8 .shl rm count s := by
  simp only [shiftRm8, ShiftOp.sal_compute]

/-- R236: SAL of an r/m16 operand is SHL. -/
theorem shiftRm16_sal (rm : RM16) (count : Byte) (s : State) :
    shiftRm16 .sal rm count s = shiftRm16 .shl rm count s := by
  simp only [shiftRm16, ShiftOp.sal_compute]

end Sys2Proof.Machine

namespace Sys2Proof

open Sys2Proof.Machine

/-- Settles O26, by `shiftRm8_leaves`, `shiftRm16_leaves` and `shiftRm_of_count_zero`, whatever gives the count. -/
theorem shiftForms : Obligations.ShiftForms := by
  intro op s hinv
  obtain ⟨hw, -⟩ := Bool.and_eq_true_iff.mp hinv
  simp only [ShiftOp.exec_rm8One, ShiftOp.exec_rm16One, ShiftOp.exec_rm8Cl, ShiftOp.exec_rm16Cl, ShiftOp.exec_rm8Cnt,
    ShiftOp.exec_rm16Cnt]
  have hone : (1 : Byte).toNat % 32 ≠ 0 := by decide
  exact ⟨fun _ _ hread => shiftRm8_leaves op hone hread hw, fun _ _ hread => shiftRm16_leaves op hone hread hw,
    fun rm8 rm16 _ hc => shiftRm_of_count_zero op rm8 rm16 hc s, fun _ _ _ hc hread => shiftRm8_leaves op hc hread hw,
    fun _ _ _ hc hread => shiftRm16_leaves op hc hread hw,
    fun rm8 rm16 hc => shiftRm_of_count_zero op rm8 rm16 hc s, fun _ _ hc hread => shiftRm8_leaves op hc hread hw,
    fun _ _ hc hread => shiftRm16_leaves op hc hread hw⟩

/-- Settles O27, by `ShiftOp.rol_steps_succ` and `ShiftOp.ror_steps_succ`. -/
theorem rotatesRotate : Obligations.RotatesRotate := by
  intro w hwidth v c n hn
  have hw : 1 < w := by omega
  obtain ⟨n, rfl⟩ := Nat.exists_eq_succ_of_ne_zero hn.ne'
  exact ⟨ShiftOp.rol_steps_succ hw n v c, ShiftOp.ror_steps_succ hw n v c⟩

/-- Settles O28, by `ShiftOp.withCarry_rcl_steps` and `ShiftOp.withCarry_rcr_steps`. -/
theorem carryRotatesRotate : Obligations.CarryRotatesRotate := by
  intro w hwidth v c n
  have hw : 1 < w := by omega
  exact ⟨ShiftOp.withCarry_rcl_steps hw n v c, ShiftOp.withCarry_rcr_steps hw n v c⟩

/-- Settles O29: the shifts by their steps in closed form, SAL in each form by `shiftRm8_sal` or `shiftRm16_sal`. -/
theorem shiftsShift : Obligations.ShiftsShift := by
  constructor
  · intro w hwidth v c n hn
    have hw : 1 < w := by omega
    obtain ⟨n, rfl⟩ := Nat.exists_eq_succ_of_ne_zero hn.ne'
    exact ⟨ShiftOp.shl_steps_succ hw n v c, ShiftOp.shr_steps_succ n v c, ShiftOp.sar_steps_succ hw n v c⟩
  · intro s rm8 rm16 count
    exact ⟨congrArg finish (shiftRm8_sal rm8 1 s), congrArg finish (shiftRm16_sal rm16 1 s),
      congrArg finish (shiftRm8_sal rm8 (s.reg8 .cl) s), congrArg finish (shiftRm16_sal rm16 (s.reg8 .cl) s),
      congrArg finish (shiftRm8_sal rm8 count s), congrArg finish (shiftRm16_sal rm16 count s)⟩

/-- Settles O30: the new top bit, and after a step to the right the bit under it, are bits of the operand or the old
CF. -/
theorem shiftOverflowOfOne : Obligations.ShiftOverflowOfOne := by
  intro w hwidth op v c
  have hw : 1 < w := by omega
  cases op with
  | rol | rcl =>
    simp only [ShiftOp.overflowOne, ShiftOp.step, msb_shiftLeft_or_bitValue hw, ← BitVec.msb_eq_getLsbD_last]
  | shl | sal => simp only [ShiftOp.overflowOne, ShiftOp.step, msb_shiftLeft_one hw, ← BitVec.msb_eq_getLsbD_last]
  | ror | rcr =>
    simp only [ShiftOp.overflowOne, ShiftOp.step, msb_ushiftRight_or_bitValue hw,
      getLsbD_ushiftRight_or_bitValue_under_top hw, ← BitVec.msb_eq_getLsbD_last]
  | shr =>
    simp only [ShiftOp.overflowOne, ShiftOp.step, BitVec.msb_ushiftRight, Nat.one_pos, decide_true, Bool.not_true,
      Bool.false_and, Bool.false_xor, getLsbD_ushiftRight_one_under_top hw, ← BitVec.msb_eq_getLsbD_last]
  | sar => rfl

end Sys2Proof
end

section
/-! PROOF. The string primitives (spec/44_string.md R250 to R256): where its operands can be read, each completes. An
element stored reads back, and the flags of a comparison keep DF, by which the index registers advance. -/

namespace Sys2Proof.Machine

/-- An instruction whose first access can be made ends as what is left of it. -/
theorem finish_bind_of_ok {α : Type} {x : Except Fault α} {v : α} (h : x = .ok v) (rest : α → Except Fault State) :
    finish (x.bind rest) = finish (rest v) := by
  rw [h, Except.bind]

/-! ### Elements stored -/

/-- R65: a byte that can be read can be written: the write changes MEM alone, and the byte reads back. -/
theorem State.memWrite8_of_read {s : State} {seg off : Word} {old : Byte} (v : Byte)
    (h : s.memRead8 seg off = .ok old) (hw : s.mem.wf = true) :
    ∃ m, s.memWrite8 seg off v = .ok (s.withMem m) ∧ (s.withMem m).memRead8 seg off = .ok v := by
  obtain ⟨hb, -⟩ := State.memRead8_eq_ok.mp h
  exact ⟨_, State.memWrite8_eq_ok.mpr ⟨hb, rfl⟩, State.memRead8_withMem_write hw hb⟩

/-- R65, R66: the same for a word. -/
theorem State.memWrite16_of_read {s : State} {seg off old : Word} (v : Word)
    (h : s.memRead16 seg off = .ok old) (hw : s.mem.wf = true) :
    ∃ m, s.memWrite16 seg off v = .ok (s.withMem m) ∧ (s.withMem m).memRead16 seg off = .ok v := by
  obtain ⟨ho, hb, -⟩ := State.memRead16_eq_ok.mp h
  exact ⟨_, State.memWrite16_eq_ok.mpr ⟨ho, hb, rfl⟩, State.memRead16_withMem_write hw ho hb⟩

/-! ### Elements compared -/

section

variable {w : Nat} {a b : BitVec w} {c : Bool} {s : State} {fl : Word}

/-- R160, R251: the flags of a subtraction keep DF, so an index register advances as it did under the old ones. -/
theorem SubFlagsHold.stepIndex_withFlags (h : SubFlagsHold a b c s.flags fl) (x k : Word) :
    (s.withFlags fl).stepIndex x k = s.stepIndex x k := by
  have hdf : (s.withFlags fl).flag .df = s.flag .df := h.kept 10 (by decide)
  rw [State.stepIndex, State.stepIndex, hdf]

/-- R256: the flags of a subtraction written, DI advances. -/
theorem SubFlagsHold.advanceDi (h : SubFlagsHold a b c s.flags fl) (k : Word) :
    (s.withFlags fl).advanceDi k = { s with flags := fl, di := s.stepIndex s.di k } := by
  rw [State.advanceDi, h.stepIndex_withFlags]
  rfl

/-- R253: the flags of a subtraction written, SI and DI advance. -/
theorem SubFlagsHold.advanceSi_advanceDi (h : SubFlagsHold a b c s.flags fl) (k : Word) :
    ((s.withFlags fl).advanceSi k).advanceDi k =
      { s with flags := fl, si := s.stepIndex s.si k, di := s.stepIndex s.di k } := by
  have hdi : ((s.withFlags fl).advanceSi k).stepIndex s.di k = s.stepIndex s.di k := h.stepIndex_withFlags s.di k
  rw [← hdi, ← h.stepIndex_withFlags s.si k]
  rfl

end

section

variable {w : Nat} {x y : Except Fault (BitVec w)} {a b : BitVec w}

/-- R253: a comparison of two elements that can be read, of either size `k`. -/
theorem finish_compare_of_ok (hw : 4 < w) (ha : x = .ok a) (hb : y = .ok b) (s : State) (k : Word) :
    ∃ fl, SubFlagsHold a b false s.flags fl ∧
      finish (x.bind fun a => y.map fun b =>
        ((s.withFlags (subFlags a b false s.flags).2).advanceSi k).advanceDi k) =
          .next { s with flags := fl, si := s.stepIndex s.si k, di := s.stepIndex s.di k } := by
  have hfl := subFlagsHold_subFlags hw a b false s.flags
  refine ⟨_, hfl, ?_⟩
  rw [finish_bind_of_ok ha, finish_map_of_ok hb, hfl.advanceSi_advanceDi]

/-- R256: a comparison of the accumulator with an element that can be read. -/
theorem finish_scan_of_ok (hw : 4 < w) (a : BitVec w) (hb : y = .ok b) (s : State) (k : Word) :
    ∃ fl, SubFlagsHold a b false s.flags fl ∧
      finish (y.map fun b => (s.withFlags (subFlags a b false s.flags).2).advanceDi k) =
        .next { s with flags := fl, di := s.stepIndex s.di k } := by
  have hfl := subFlagsHold_subFlags hw a b false s.flags
  refine ⟨_, hfl, ?_⟩
  rw [finish_map_of_ok hb, hfl.advanceDi]

end

end Sys2Proof.Machine

namespace Sys2Proof

open Sys2Proof.Machine

/-- Settles O31, by `State.memWrite8_of_read` and `State.memWrite16_of_read`: the index registers advance after the
store, which leaves DF, and their advance leaves MEM. -/
theorem stringMoves : Obligations.StringMoves := by
  intro s hinv advanced
  obtain ⟨hw, -⟩ := Bool.and_eq_true_iff.mp hinv
  refine ⟨fun v old hv hold => ?movsb, fun v old hv hold => ?movsw, fun old hold => ?stosb, fun old hold => ?stosw,
    fun v hv => finish_map_of_ok hv _, fun v hv => finish_map_of_ok hv _⟩
  case movsb =>
    obtain ⟨m, hwrite, hread⟩ := State.memWrite8_of_read v hold hw
    exact ⟨_, (finish_bind_of_ok hv _).trans (finish_map_of_ok hwrite _),
      (State.memRead8_congr rfl rfl _ _).trans hread, rfl, rfl⟩
  case movsw =>
    obtain ⟨m, hwrite, hread⟩ := State.memWrite16_of_read v hold hw
    exact ⟨_, (finish_bind_of_ok hv _).trans (finish_map_of_ok hwrite _),
      (State.memRead16_congr rfl rfl _ _).trans hread, rfl, rfl⟩
  case stosb =>
    obtain ⟨m, hwrite, hread⟩ := State.memWrite8_of_read (s.reg8 .al) hold hw
    exact ⟨_, finish_map_of_ok hwrite _, (State.memRead8_congr rfl rfl _ _).trans hread, rfl⟩
  case stosw =>
    obtain ⟨m, hwrite, hread⟩ := State.memWrite16_of_read s.ax hold hw
    exact ⟨_, finish_map_of_ok hwrite _, (State.memRead16_congr rfl rfl _ _).trans hread, rfl⟩

/-- Settles O32, by `finish_compare_of_ok` and `finish_scan_of_ok` at both widths. -/
theorem stringCompares : Obligations.StringCompares := fun s =>
  ⟨fun _ _ ha hb => finish_compare_of_ok (by decide) ha hb s 1,
    fun _ _ ha hb => finish_compare_of_ok (by decide) ha hb s 2,
    fun _ hb => finish_scan_of_ok (by decide) (s.reg8 .al) hb s 1,
    fun _ hb => finish_scan_of_ok (by decide) s.ax hb s 2⟩

end Sys2Proof
end

section
/-! PROOF. PUSH and POP (spec/45_stack.md R270 to R279): where its stack word can be read, a push is one `Push16` of its
operand and a pop is one `Pop16` followed by the write of its destination. -/

namespace Sys2Proof.Machine

section

variable {s : State}

/-! ### The value pushed -/

/-- R272: a word register other than SP is pushed as it stands. -/
theorem State.pushedReg_of_ne_sp {r : Reg16} (hr : r ≠ .sp) : s.pushedReg r = s.reg16 r :=
  if_neg fun h => hr h.1

/-- R272, D25: PUSH SP pushes the old SP or the decremented one, as the parameter says. -/
theorem State.pushedReg_sp : s.pushedReg .sp = if s.cfg.pushSpOld then s.sp else s.sp - 2 := by
  cases hold : s.cfg.pushSpOld <;> simp [State.pushedReg, State.reg16, hold]

/-- R273: PUSH r/m16 pushes the operand read; SP as the operand has the rule of its own of R272. -/
theorem exec_pushRm16_of_read {rm : RM16} {v : Word} (hrm : rm ≠ .reg .sp) (h : s.readRM16 rm = .ok v) :
    exec (.pushRm16 rm) s = finish (s.push16 v) := by
  refine congrArg finish (?_ : pushRm rm s = s.push16 v)
  cases rm with
  | reg r =>
    have hr : r ≠ .sp := fun heq => hrm (congrArg RM.reg heq)
    have hv : s.reg16 r = v := Except.ok.inj h
    rw [pushRm, pushReg16, State.pushedReg_of_ne_sp hr, hv]
  | mem m => rw [pushRm, h, Except.bind]

/-! ### Stack words that can be accessed -/

/-- R270: an instruction that is one push leaves SP 2 less, and the word pushed reads back at SS:SP. -/
theorem finish_push16_of_read {old : Word} (v : Word) (h : s.memRead16 s.ss (s.sp - 2) = .ok old)
    (hw : s.mem.wf = true) :
    ∃ t, finish (s.push16 v) = .next t ∧ t.sp = s.sp - 2 ∧ t.memRead16 s.ss (s.sp - 2) = .ok v := by
  obtain ⟨m, -, hpush, hread, -⟩ := State.push16_of_read v h hw
  exact ⟨_, finish_eq_next.mpr hpush, rfl, hread⟩

/-- R275: POP r16 moves SP first, so that POP SP leaves the word popped. -/
theorem exec_pop_of_read {v : Word} (r : Reg16) (h : s.memRead16 s.ss s.sp = .ok v) :
    exec r.pop s = .next ((s.setReg16 .sp (s.sp + 2)).setReg16 r v) :=
  (r.exec_pop s).trans (finish_map_of_ok (State.pop16_of_read h) _)

/-- R279: once its stack word is read, POP r/m16 is the write of that word to the operand located before. -/
theorem exec_popRm16_of_read {v : Word} (rm : RM16) (h : s.memRead16 s.ss s.sp = .ok v) :
    exec (.popRm16 rm) s = finish ((s.setReg16 .sp (s.sp + 2)).writeLoc16 (s.locate rm) v) :=
  finish_bind_of_ok (State.pop16_of_read h) _

end

/-- A write of an operand in memory leaves SP. -/
theorem State.writeLoc16_mem_sp {s t : State} {seg off v : Word} (h : s.writeLoc16 (.mem seg off) v = .ok t) :
    t.sp = s.sp := by
  obtain ⟨-, -, rfl⟩ := State.memWrite16_eq_ok.mp h
  rfl

end Sys2Proof.Machine

namespace Sys2Proof

open Sys2Proof.Machine

/-- Settles O33: every form is one push, by `finish_push16_of_read`, of the value its operand has before SP moves, save
that PUSH SP follows the parameter. -/
theorem pushForms : Obligations.PushForms := by
  intro s old hinv hold
  obtain ⟨hw, -⟩ := Bool.and_eq_true_iff.mp hinv
  have hpush (v : Word) := finish_push16_of_read v hold hw
  refine ⟨fun r hr => ?reg, ?sp, fun r => ?sreg, fun rm v hrm hv => ?rm, rfl⟩
  case reg =>
    rw [Reg16.exec_push, State.pushedReg_of_ne_sp hr]
    exact hpush _
  case sp =>
    rw [← State.pushedReg_sp]
    exact hpush _
  case sreg =>
    rw [SReg.exec_push]
    exact hpush _
  case rm =>
    rw [exec_pushRm16_of_read hrm hv]
    exact hpush v

/-- Settles O35: the push leaves SS and the word at SS:SP for the pop to read, and the pop moves SP back before it writes
its register. -/
theorem pushThenPop : Obligations.PushThenPop := by
  intro s r q old hinv hold
  obtain ⟨hw, -⟩ := Bool.and_eq_true_iff.mp hinv
  obtain ⟨m, -, hpush, hread, -⟩ := State.push16_of_read (s.pushedReg r) hold hw
  refine ⟨_, _, (r.exec_push s).trans (finish_eq_next.mpr hpush), exec_pop_of_read q hread,
    State.reg16_setReg16_self _ _ _, fun hq => ?_⟩
  rw [State.setReg16_sp, if_neg hq]
  exact BitVec.sub_add_cancel s.sp 2

/-- Settles O34: a register form is the pop and the write of the register; the write of a memory operand, by
`State.writeLoc16_of_read`, leaves SP as the pop left it. -/
theorem popForms : Obligations.PopForms := by
  intro s v hv
  have hpop := State.pop16_of_read hv
  refine ⟨fun r => exec_pop_of_read r hv, finish_map_of_ok hpop _, finish_map_of_ok hpop _, finish_map_of_ok hpop _,
    fun r => (exec_popRm16_of_read (.reg r) hv).trans (exec_pop_of_read r hv).symm, fun m old hinv hold => ?mem⟩
  case mem =>
    obtain ⟨hw, -⟩ := Bool.and_eq_true_iff.mp hinv
    obtain ⟨t, hwrite, hread⟩ := State.writeLoc16_of_read (s' := s.setReg16 .sp (s.sp + 2)) v hold rfl rfl hw
    exact ⟨t, (exec_popRm16_of_read (.mem m) hv).trans (finish_eq_next.mpr hwrite),
      State.writeLoc16_mem_sp hwrite, hread⟩

end Sys2Proof
end

section
/-! PROOF. Control transfers (spec/46_control.md R290 to R328). A branch goes by the bits of FLAGS its condition reads;
where its stack words can be read, a call is its pushes and one transfer, and a return its pops and one transfer. -/

namespace Sys2Proof.Machine

section

variable {s : State}

/-! ### Branches and loops -/

/-- R304: a conditional branch goes by the value of its condition. -/
theorem exec_jump_of_holds {c : Cond} {b : Bool} (rel : Byte) (h : c.holds s.flags = b) :
    exec (c.jump rel) s = .next (if b then { s with ip := s.ip + rel.signExtend 16 } else s) := by
  rw [Cond.exec_jump, jumpIf, h]
  rfl

/-- R324: what the loop family leaves in FLAGS. -/
theorem State.countDown_flags :
    s.countDown.flags = if s.cfg.loopWritesFlags then (IncDec.dec.compute s.cx s.flags).2 else s.flags := rfl

/-- R325 to R327: the new CX is 0 exactly when the old one was 1. -/
theorem finish_loopOn (k : LoopKind) (rel : Byte) (s : State) :
    finish (loopOn k rel s) = .next { s with
      cx := s.cx - 1, flags := s.countDown.flags,
      ip := if decide (s.cx ≠ 1) && k.holds s.countDown.flags then s.ip + rel.signExtend 16 else s.ip } := by
  have hcx : s.countDown.cx ≠ 0 ↔ s.cx ≠ 1 := sub_ne_zero
  simp only [loopOn, hcx, Bool.and_eq_true, decide_eq_true_eq]
  split <;> rfl

/-! ### Returns -/

/-- R298, R299: where its stack word can be read, a near return completes. -/
theorem finish_returnNear_of_read {off : Word} (n : Word) (h : s.memRead16 s.ss s.sp = .ok off) :
    finish (returnNear n s) = .next { s with ip := off, sp := s.sp + 2 + n } :=
  finish_map_of_ok (State.pop16_of_read h) _

/-- R300, R301: where both its stack words can be read, a far return completes. -/
theorem finish_returnFar_of_read {off seg : Word} (n : Word) (hoff : s.memRead16 s.ss s.sp = .ok off)
    (hseg : s.memRead16 s.ss (s.sp + 2) = .ok seg) :
    finish (returnFar n s) = .next { s with ip := off, cs := seg, sp := s.sp + 4 + n } := by
  have hpop := State.pop16_of_read (s := s.setReg16 .sp (s.sp + 2)) ((State.memRead16_congr rfl rfl _ _).trans hseg)
  have hsp : s.sp + 4 = s.sp + 2 + 2 := (BitVec.add_assoc s.sp 2 2).symm
  rw [hsp]
  exact (finish_bind_of_ok (State.pop16_of_read hoff) _).trans (finish_map_of_ok hpop _)

/-- R298: RET discards nothing. -/
theorem exec_ret_of_read {off : Word} (h : s.memRead16 s.ss s.sp = .ok off) :
    exec .ret s = .next { s with ip := off, sp := s.sp + 2 } := by
  rw [← BitVec.add_zero (s.sp + 2)]
  exact finish_returnNear_of_read 0 h

/-- R300: RETF discards nothing. -/
theorem exec_retf_of_read {off seg : Word} (hoff : s.memRead16 s.ss s.sp = .ok off)
    (hseg : s.memRead16 s.ss (s.sp + 2) = .ok seg) :
    exec .retf s = .next { s with ip := off, cs := seg, sp := s.sp + 4 } := by
  rw [← BitVec.add_zero (s.sp + 4)]
  exact finish_returnFar_of_read 0 hoff hseg

/-! ### The two stack words of a far call -/

/-- R61: different offsets of one segment are different physical addresses, in both address models. -/
theorem State.phys_ne_of_offset_ne (seg : Word) {off off' : Word} (h : off ≠ off') :
    s.phys seg off ≠ s.phys seg off' := by
  have hne : off.toNat ≠ off'.toNat := BitVec.toNat_ne.mp h
  have hoff := off.isLt
  have hoff' := off'.isLt
  cases hm : s.cfg.addrModel <;> simp only [State.phys, Machine.phys, hm, memSize] <;> omega

/-- R64: a state with the same parameters and the same two bytes reads the same word. -/
theorem State.memRead16_eq_of_bytes {t : State} {seg off : Word} (hc : t.cfg = s.cfg)
    (hlow : t.mem.read (s.phys seg off) = s.mem.read (s.phys seg off))
    (hhigh : t.mem.read (s.phys seg (off + 1)) = s.mem.read (s.phys seg (off + 1))) :
    t.memRead16 seg off = s.memRead16 seg off := by
  simp only [State.memRead16, State.phys_congr hc, hlow, hhigh]

/-- R296: two pushes whose stack words can be read complete, and the second leaves the word of the first. -/
theorem State.push16_push16_of_read {a b : Word} (v w : Word) (ha : s.memRead16 s.ss (s.sp - 2) = .ok a)
    (hb : s.memRead16 s.ss (s.sp - 4) = .ok b) (hw : s.mem.wf = true) :
    ∃ m t u, u = (s.setReg16 .sp (s.sp - 4)).withMem m ∧ s.push16 v = .ok t ∧ t.push16 w = .ok u ∧
      u.memRead16 s.ss (s.sp - 2) = .ok v ∧ u.memRead16 s.ss (s.sp - 4) = .ok w := by
  obtain ⟨m₁, hm₁, hpush₁, hread₁, -⟩ := State.push16_of_read v ha hw
  have hsp : s.sp - 4 = s.sp - 2 - 2 := (BitVec.sub_sub s.sp 2 2).symm
  obtain ⟨ho, hbound, -⟩ := State.memRead16_eq_ok.mp (hsp ▸ hb)
  obtain ⟨m₂, -, hpush₂, hread₂, hother⟩ :=
    State.push16_of_read (s := (s.setReg16 .sp (s.sp - 2)).withMem m₁) w
      (State.memRead16_eq_ok.mpr ⟨ho, hbound, rfl⟩) hm₁
  have hagree {off : Word} (hlow : off ≠ s.sp - 2 - 2) (hhigh : off ≠ s.sp - 2 - 2 + 1) :
      m₂.read (s.phys s.ss off) = m₁.read (s.phys s.ss off) :=
    hother _ (State.phys_ne_of_offset_ne _ hlow) (State.phys_ne_of_offset_ne _ hhigh)
  have hlow : m₂.read (s.phys s.ss (s.sp - 2)) = m₁.read (s.phys s.ss (s.sp - 2)) :=
    hagree (by bv_omega) (by bv_omega)
  have hhigh : m₂.read (s.phys s.ss (s.sp - 2 + 1)) = m₁.read (s.phys s.ss (s.sp - 2 + 1)) :=
    hagree (by bv_omega) (by bv_omega)
  have hkept := State.memRead16_eq_of_bytes (s := (s.setReg16 .sp (s.sp - 2)).withMem m₁)
    (t := (s.setReg16 .sp (s.sp - 2 - 2)).withMem m₂) rfl hlow hhigh
  rw [hsp]
  exact ⟨m₂, _, _, rfl, hpush₁, hpush₂, hkept.trans hread₁, hread₂⟩

/-! ### Calls -/

/-- R295: where its stack word can be read, a near call completes, and IP reads back. -/
theorem finish_callNearBy_of_read {a : Word} (d : Word) (h : s.memRead16 s.ss (s.sp - 2) = .ok a)
    (hw : s.mem.wf = true) :
    ∃ m t, t = ((s.setReg16 .sp (s.sp - 2)).withMem m).branch d ∧ finish (callNearBy d s) = .next t ∧
      t.memRead16 s.ss (s.sp - 2) = .ok s.ip := by
  obtain ⟨m, -, hpush, hread, -⟩ := State.push16_of_read s.ip h hw
  exact ⟨m, _, rfl, finish_map_of_ok hpush _, (State.memRead16_congr rfl rfl _ _).trans hread⟩

/-- R296: where its stack words can be read, a far call completes, and CS and IP read back. -/
theorem finish_callFarTo_of_read {a b : Word} (off seg : Word) (ha : s.memRead16 s.ss (s.sp - 2) = .ok a)
    (hb : s.memRead16 s.ss (s.sp - 4) = .ok b) (hw : s.mem.wf = true) :
    ∃ m t, t = ((s.setReg16 .sp (s.sp - 4)).withMem m).transfer seg off ∧ finish (callFarTo off seg s) = .next t ∧
      t.memRead16 s.ss (s.sp - 2) = .ok s.cs ∧ t.memRead16 s.ss (s.sp - 4) = .ok s.ip := by
  obtain ⟨m, t, u, rfl, hcs, hip, hreadCs, hreadIp⟩ := State.push16_push16_of_read s.cs s.ip ha hb hw
  exact ⟨m, _, rfl, (finish_bind_of_ok hcs _).trans (finish_map_of_ok hip _),
    (State.memRead16_congr rfl rfl _ _).trans hreadCs, (State.memRead16_congr rfl rfl _ _).trans hreadIp⟩

end

end Sys2Proof.Machine

namespace Sys2Proof

open Sys2Proof.Machine

/-- Settles O38, by `finish_callNearBy_of_read` and `finish_callFarTo_of_read`. -/
theorem callForms : Obligations.CallForms := by
  intro s a hinv ha
  obtain ⟨hw, -⟩ := Bool.and_eq_true_iff.mp hinv
  refine ⟨fun d => ?near, fun off seg b hb => ?far⟩
  case near =>
    obtain ⟨m, t, rfl, hcall, hip⟩ := finish_callNearBy_of_read d ha hw
    exact ⟨_, hcall, rfl, hip, rfl, rfl⟩
  case far =>
    obtain ⟨m, t, rfl, hcall, hcs, hip⟩ := finish_callFarTo_of_read off seg ha hb hw
    exact ⟨_, hcall, rfl, hcs, hip, rfl, rfl⟩

/-- Settles O40: a call leaves SS and its stack words for the return to read, and the return moves SP back as far. -/
theorem callThenReturn : Obligations.CallThenReturn := by
  intro s a hinv ha
  obtain ⟨hw, -⟩ := Bool.and_eq_true_iff.mp hinv
  refine ⟨fun d => ?near, fun off seg b hb => ?far⟩
  case near =>
    obtain ⟨m, t, rfl, hcall, hip⟩ := finish_callNearBy_of_read d ha hw
    exact ⟨_, _, hcall, exec_ret_of_read hip, rfl, rfl, BitVec.sub_add_cancel s.sp 2⟩
  case far =>
    obtain ⟨m, t, rfl, hcall, hcs, hip⟩ := finish_callFarTo_of_read off seg ha hb hw
    have hsp : s.sp - 2 = s.sp - 4 + 2 := by bv_omega
    rw [hsp] at hcs
    exact ⟨_, _, hcall, exec_retf_of_read hip hcs, rfl, rfl, BitVec.sub_add_cancel s.sp 4⟩

/-- Settles O37, by `exec_jump_of_holds`: each condition is computed from the bits of FLAGS; the four that negate a
disjunction or an inequality of flags differ from the rule's form by a Boolean identity. -/
theorem branchesAndJumps : Obligations.BranchesAndJumps := by
  intro s rel d off seg go cf pf zf sf ov
  have hjump {b : Bool} (c : Cond) (h : c.holds s.flags = b) : exec (c.jump rel) s = go b := exec_jump_of_holds rel h
  have ha : Cond.a.holds s.flags = !(cf || zf) := (Bool.not_or cf zf).symm
  have hge : Cond.ge.holds s.flags = !(sf ^^ ov) := (Bool.not_not (sf == ov)).symm
  have hg : Cond.g.holds s.flags = !(zf || (sf ^^ ov)) := by
    rw [Bool.not_or, ← hge]
    rfl
  have hcxz : exec (.jcxz rel) s = go (decide (s.cx = 0)) := by
    simp only [go, decide_eq_true_eq]
    rfl
  exact ⟨hjump .o rfl, hjump .no rfl, hjump .b rfl, hjump .ae rfl, hjump .e rfl, hjump .ne rfl, hjump .be rfl,
    hjump .a ha, hjump .s rfl, hjump .ns rfl, hjump .p rfl, hjump .np rfl, hjump .l rfl, hjump .ge hge,
    hjump .le rfl, hjump .g hg, hcxz, rfl, rfl, rfl⟩

/-- Settles O39, by `finish_returnNear_of_read` and `finish_returnFar_of_read`. -/
theorem returnForms : Obligations.ReturnForms := fun _ _ n hoff =>
  ⟨exec_ret_of_read hoff, finish_returnNear_of_read n hoff,
    fun _ hseg => ⟨exec_retf_of_read hoff hseg, finish_returnFar_of_read n hoff hseg⟩⟩

/-- Settles O41, by `finish_loopOn`; FLAGS is what `State.countDown` leaves, by the parameter. -/
theorem loopForms : Obligations.LoopForms := by
  intro s rel
  refine ⟨s.countDown.flags, fun hkeep => ?kept, fun hwrite => ?written, ?loop, finish_loopOn .whileZero rel s,
    finish_loopOn .whileNotZero rel s⟩
  case kept => rw [State.countDown_flags, hkeep, if_neg Bool.false_ne_true]
  case written =>
    have hcx : (IncDec.dec.compute s.cx s.flags).1 = s.cx - 1 := subFlags_fst_false (by decide) s.cx 1 s.flags
    rw [State.countDown_flags, if_pos hwrite, ← hcx]
    exact incDecCompute_leaves (by decide) .dec s.cx s.flags
  case loop =>
    rw [← Bool.and_true (decide (s.cx ≠ 1))]
    exact finish_loopOn .always rel s

end Sys2Proof
end

section
/-! PROOF. INT and its services (spec/60_exceptions.md R361 to R367), the unrecognized-opcode rule
(spec/48_unnamed_opcodes.md R350) and LOAD (spec/70_reset_and_hazards.md R403). String output is read off its text:
the bytes before the terminator, the bound or the fault are passed over by one induction. -/

namespace Sys2Proof.Machine

/-! ### The service AH selects -/

/-- R367. -/
theorem exec_int_other {n : Byte} (h : n ≠ dosVector) (s : State) :
    exec (.int n) s = .next (s.emitDiag (.unsupportedInterrupt n)) :=
  congrArg finish (if_neg h)

/-- R361. -/
theorem exec_int_dos (s : State) : exec (.int dosVector) s = finish (dosService s) :=
  congrArg finish (if_pos rfl)

theorem dosService_string {s : State} (h : s.reg8 .ah = fnString) : dosService s = printString s := by
  rw [dosService, h, if_neg (by decide), if_pos rfl]

theorem dosService_char {s : State} (h : s.reg8 .ah = fnChar) :
    dosService s = .ok (s.emitConout [s.reg8 .dl]) := by
  rw [dosService, h, if_neg (by decide), if_neg (by decide), if_pos rfl]

theorem dosService_other {s : State} (hexit : s.reg8 .ah ≠ fnExit) (hstring : s.reg8 .ah ≠ fnString)
    (hchar : s.reg8 .ah ≠ fnChar) :
    dosService s = .ok (s.emitDiag (.unsupportedFunction (s.reg8 .ah))) := by
  rw [dosService, if_neg hexit, if_neg hstring, if_neg hchar]

/-! ### The console filter -/

theorem printable_iff {c : Byte} : printable c = true ↔ 0x20 ≤ c.toNat ∧ c.toNat ≤ 0x7E := by
  rw [printable, Bool.and_eq_true, decide_eq_true_eq, decide_eq_true_eq]

theorem consoleFilter_of_printable (cfg : Config) {c : Byte} (h : printable c = true) :
    consoleFilter cfg c = [c] :=
  if_pos h

/-- R366: without changes the filter is the default table. -/
theorem consoleFilter_of_not_printable {cfg : Config} {c : Byte} (hcfg : cfg.filterChanges = [])
    (h : ¬ printable c = true) : consoleFilter cfg c = defaultControlOutput c := by
  rw [consoleFilter, if_neg h, hcfg]
  rfl

/-! ### String output -/

/-- R29: the offsets from the next one on are the later offsets. -/
theorem add_one_add_ofNat (off : Word) (k : Nat) :
    off + 1 + BitVec.ofNat 16 k = off + BitVec.ofNat 16 (k + 1) := by
  rw [Nat.add_comm k 1, BitVec.ofNat_add, BitVec.add_assoc]
  rfl

section

variable {s : State} {off : Word} {text : List Byte}

/-- R365: the bound is reached. -/
@[simp] theorem State.stringOutput_zero (s : State) (off : Word) : s.stringOutput 0 off = .ok ([], true) := rfl

theorem State.stringOutput_of_end (n : Nat) (h : s.memRead8 s.ds off = .ok stringEnd) :
    s.stringOutput (n + 1) off = .ok ([], false) := by
  rw [State.stringOutput, h, Except.bind, if_pos rfl]

theorem State.stringOutput_of_error (n : Nat) {f : Fault} (h : s.memRead8 s.ds off = .error f) :
    s.stringOutput (n + 1) off = .error f :=
  except_bind_eq_error.mpr (.inl h)

theorem State.stringOutput_of_byte (n : Nat) {c : Byte} (h : s.memRead8 s.ds off = .ok c) (hc : c ≠ stringEnd) :
    s.stringOutput (n + 1) off =
      (s.stringOutput n (off + 1)).map (Prod.map (consoleFilter s.cfg c ++ ·) id) := by
  rw [State.stringOutput, h, Except.bind, if_neg hc]
  rfl

/-- The bytes of `text` stand at DS:`off` on, the offset wrapping, and none of them ends a string (R365). -/
def State.HoldsText (s : State) (off : Word) (text : List Byte) : Prop :=
  ∀ k (h : k < text.length), s.memRead8 s.ds (off + BitVec.ofNat 16 k) = .ok text[k] ∧ text[k] ≠ stringEnd

theorem State.HoldsText.cons {c : Byte} (h : s.HoldsText off (c :: text)) :
    (s.memRead8 s.ds off = .ok c ∧ c ≠ stringEnd) ∧ s.HoldsText (off + 1) text := by
  refine ⟨by simpa using h 0 (Nat.zero_lt_succ _), fun k hk => ?_⟩
  rw [add_one_add_ofNat]
  exact h (k + 1) (Nat.succ_lt_succ hk)

/-- R365: a text that does not end the string is output through the filter, ahead of what comes after it. -/
theorem State.stringOutput_of_text (n : Nat) (h : s.HoldsText off text) :
    s.stringOutput (text.length + n) off =
      (s.stringOutput n (off + BitVec.ofNat 16 text.length)).map
        (Prod.map (text.flatMap (consoleFilter s.cfg) ++ ·) id) := by
  induction text generalizing off with
  | nil =>
    have hoff : off + BitVec.ofNat 16 ([] : List Byte).length = off := BitVec.add_zero off
    rw [hoff, List.length_nil, Nat.zero_add]
    cases s.stringOutput n off <;> rfl
  | cons c text ih =>
    obtain ⟨⟨hread, hc⟩, htext⟩ := h.cons
    have hoff : off + 1 + BitVec.ofNat 16 text.length = off + BitVec.ofNat 16 (c :: text).length :=
      add_one_add_ofNat off text.length
    rw [List.length_cons, Nat.add_right_comm, State.stringOutput_of_byte _ hread hc, ih htext, hoff,
      List.flatMap_cons]
    cases s.stringOutput n (off + BitVec.ofNat 16 (c :: text).length) with
    | error f => rfl
    | ok r => exact congrArg (fun out => Except.ok (out, r.2)) (List.append_assoc _ _ r.1).symm

end

/-! ### Copying an image -/

/-- R403: an image leaves every byte below it and past its end. -/
theorem Memory.read_writeImage_outside {m : Memory} {a b : Nat} {bytes : List Byte}
    (h : b < a ∨ a + bytes.length ≤ b) : (m.writeImage a bytes).read b = m.read b := by
  induction bytes generalizing m a with
  | nil => rfl
  | cons v bytes ih =>
    rw [List.length_cons] at h
    rw [Memory.writeImage, ih (by omega), Memory.read_write_other (by omega)]

/-- R403: an image inside the store reads back: its first byte is below the rest, which leaves it. -/
theorem Memory.read_writeImage_inside {m : Memory} {a : Nat} {bytes : List Byte} (hm : m.wf = true)
    (ha : a + bytes.length ≤ memSize) (k : Nat) (hk : k < bytes.length) :
    (m.writeImage a bytes).read (a + k) = bytes[k] := by
  induction bytes generalizing m a k with
  | nil => cases hk
  | cons v bytes ih =>
    rw [List.length_cons] at ha hk
    have hwrite : (m.write a v).wf = true := Memory.wf_write hm (by omega)
    cases k with
    | zero => exact (Memory.read_writeImage_outside (.inl (Nat.lt_succ_self a))).trans (Memory.read_write_self hm)
    | succ k =>
      rw [← Nat.succ_add_eq_add_succ]
      exact ih hwrite (by omega) k (Nat.lt_of_succ_lt_succ hk)

/-- R403: an image of the greatest length still ends inside the store. -/
theorem loadOffset_add_le_memSize {n : Nat} (h : n ≤ imageMax) : loadOffset.toNat + n ≤ memSize :=
  (Nat.add_le_add_left h _).trans (by decide)

end Sys2Proof.Machine

namespace Sys2Proof

open Sys2Proof.Machine

/-- Settles O45, by `exec_unrecognized`: IP is the first byte's, moved on by a free value of two bits. -/
theorem unrecognizedStops : Obligations.UnrecognizedStops := by
  intro i s hfam
  obtain ⟨op, bytes, henc, hexec⟩ := exec_unrecognized hfam s
  exact ⟨op, bytes, (s.drawnWord 0).toNat % 4, henc, Nat.mod_lt _ (by decide), hexec, rfl⟩

/-- Settles O44, by `State.stringOutput_of_text`: after the text comes the terminator, the bound or the fault. -/
theorem stringOutput : Obligations.StringOutput := by
  refine ⟨fun s text hah htext => ?_, fun cfg c hlo hhi => ?printable, fun cfg c hcfg hc => ?control⟩
  case printable => exact consoleFilter_of_printable cfg (printable_iff.mpr ⟨hlo, hhi⟩)
  case control =>
    rw [consoleFilter_of_not_printable hcfg (by rw [printable_iff]; omega), defaultControlOutput]
    simp
  have hexec : exec (.int 0x21) s = finish (printString s) :=
    (exec_int_dos s).trans (congrArg finish (dosService_string hah))
  rw [hexec]
  refine ⟨fun hlt hend => ?terminated, fun hlen => ?bound, fun f hlt hfault => ?fault⟩
  case terminated =>
    obtain ⟨n, hn⟩ := Nat.exists_eq_add_of_lt hlt
    have hout : s.stringOutput s.cfg.strMax s.dx = .ok (text.flatMap (consoleFilter s.cfg), false) := by
      rw [hn, Nat.add_assoc, State.stringOutput_of_text _ htext, State.stringOutput_of_end n hend]
      simp [Except.map]
    exact finish_map_of_ok hout _
  case bound =>
    have hout : s.stringOutput s.cfg.strMax s.dx = .ok (text.flatMap (consoleFilter s.cfg), true) := by
      rw [← hlen, ← Nat.add_zero text.length, State.stringOutput_of_text 0 htext]
      simp [Except.map]
    exact finish_map_of_ok hout _
  case fault =>
    obtain ⟨n, hn⟩ := Nat.exists_eq_add_of_lt hlt
    have hout : s.stringOutput s.cfg.strMax s.dx = .error f := by
      rw [hn, Nat.add_assoc, State.stringOutput_of_text _ htext]
      exact except_map_eq_error.mpr (State.stringOutput_of_error n hfault)
    exact finish_eq_fault.mpr (except_map_eq_error.mpr hout)

/-- Settles O43, by what `exec` of INT and `dosService` are in each case. -/
theorem interruptServices : Obligations.InterruptServices := fun s =>
  ⟨fun _ hn => exec_int_other hn s,
    fun hchar => (exec_int_dos s).trans (congrArg finish (dosService_char hchar)),
    fun hexit hstring hchar => (exec_int_dos s).trans (congrArg finish (dosService_other hexit hstring hchar))⟩

/-- Settles O46, by `Memory.read_writeImage_inside` and `Memory.read_writeImage_outside`. -/
theorem loadContract : Obligations.LoadContract := by
  intro s image hwf
  refine ⟨fun hlen => ?_, fun hlen => if_pos (.inl hlen)⟩
  have hfits := loadOffset_add_le_memSize hlen
  have hload : ¬ (imageMax < image.length ∨ memSize < loadOffset.toNat + image.length) :=
    not_or.mpr ⟨Nat.not_lt_of_le hlen, Nat.not_lt_of_le hfits⟩
  exact ⟨s.mem.writeImage loadOffset.toNat image, if_neg hload, Memory.read_writeImage_inside hwf hfits,
    fun a => Memory.read_writeImage_outside⟩

end Sys2Proof
end
